-- ==== Sys2Proof/Word.lean ====
section
/-! DEFINITION. The two words of SFU: the byte (`00_scope.md` R8) and the host operation word HOP24 (`30_encoding.md` R64). -/

namespace Sys2Proof

/-- A byte, an unsigned integer in 0..255 (R8, `BYTE_W` = 8 of R6). -/
abbrev Byte := BitVec 8

/-- A host operation word, 24 bits, `OP[23:16] . A[15:8] . B[7:0]` (R64). -/
abbrev Hop := BitVec 24

end Sys2Proof
end

