-- ==== Sys2Proof/Syntax.lean ====
section
/-! DEFINITION. The operations of SFU, one constructor per row of the opcode table (`00_scope.md` R5, `30_encoding.md` R65). Operands the table marks `ignored` (R73) are no part of an operation. -/

namespace Sys2Proof

/-- The 33 atomic operations a host issues to SFU (R5). -/
inductive Instr where
  /-- `NOP`, OP 0x00: do nothing (R98). -/
  | nop
  /-- `CLEAR`, OP 0x01: start a new frame (R94). -/
  | clear
  /-- `PUSH`, OP 0x02: offer the next received byte (R95). -/
  | push (b : Byte)
  /-- `END`, OP 0x03: close the frame and judge it (R96). -/
  | endFrame
  /-- `RDSTAT`, OP 0x04: read the status word (R97). -/
  | rdstat
  /-- `BUILDCMD`, OP 0x05: build the 8-byte command (R99). -/
  | buildcmd (a f : Byte)
  /-- `RDBYTE`, OP 0x06: read one byte of the validated frame (R112). -/
  | rdbyte (i : Byte)
  /-- `RD.address`, OP 0x40: read the field `address` (R113). -/
  | rdAddress
  /-- `RD.commandType`, OP 0x41: read the field `commandType` (R114). -/
  | rdCommandType
  /-- `RD.controlCode`, OP 0x42: read the field `controlCode` (R115). -/
  | rdControlCode
  /-- `RD.operatingStatus`, OP 0x43: read the field `operatingStatus` (R116). -/
  | rdOperatingStatus
  /-- `RD.chargingStatus`, OP 0x44: read the field `chargingStatus` (R117). -/
  | rdChargingStatus
  /-- `RD.controlStatus`, OP 0x45: read the field `controlStatus` (R118). -/
  | rdControlStatus
  /-- `RD.batteryType`, OP 0x46: read the field `batteryType` (R119). -/
  | rdBatteryType
  /-- `RD.batteryIdMethod`, OP 0x47: read the field `batteryIdMethod` (R120). -/
  | rdBatteryIdMethod
  /-- `RD.numberOfBatteries`, OP 0x48: read the field `numberOfBatteries` (R121). -/
  | rdNumberOfBatteries
  /-- `RD.loadControlMode`, OP 0x49: read the field `loadControlMode` (R122). -/
  | rdLoadControlMode
  /-- `RD.mpptAddressConfirm`, OP 0x4A: read the field `mpptAddressConfirm` (R123). -/
  | rdMpptAddressConfirm
  /-- `RD.baudRate`, OP 0x4B: read the field `baudRate` (R124). -/
  | rdBaudRate
  /-- `RD.ratedVoltageLevel`, OP 0x50: read the field `ratedVoltageLevel` (R144). -/
  | rdRatedVoltageLevel
  /-- `RD.upperChargeVoltage`, OP 0x51: read the field `upperChargeVoltage` (R145). -/
  | rdUpperChargeVoltage
  /-- `RD.floatVoltageLimit`, OP 0x52: read the field `floatVoltageLimit` (R146). -/
  | rdFloatVoltageLimit
  /-- `RD.lowVoltageDischargeLimit`, OP 0x53: read the field `lowVoltageDischargeLimit` (R147). -/
  | rdLowVoltageDischargeLimit
  /-- `RD.hardwareMaxChargingCurrentLimit`, OP 0x54: read the field `hardwareMaxChargingCurrentLimit` (R148). -/
  | rdHardwareMaxChargingCurrentLimit
  /-- `RD.definedChargeLimit`, OP 0x55: read the field `definedChargeLimit` (R149). -/
  | rdDefinedChargeLimit
  /-- `RD.runningChargingCurrentLimit`, OP 0x56: read the field `runningChargingCurrentLimit` (R150). -/
  | rdRunningChargingCurrentLimit
  /-- `RD.pvVoltageIn`, OP 0x57: read the field `pvVoltageIn` (R151). -/
  | rdPvVoltageIn
  /-- `RD.batteryVoltage`, OP 0x58: read the field `batteryVoltage` (R152). -/
  | rdBatteryVoltage
  /-- `RD.chargingCurrent`, OP 0x59: read the field `chargingCurrent` (R153). -/
  | rdChargingCurrent
  /-- `RD.internalTemperature`, OP 0x5A: read the field `internalTemperature` (R154). -/
  | rdInternalTemperature
  /-- `RD.externalTemperature`, OP 0x5B: read the field `externalTemperature` (R155). -/
  | rdExternalTemperature
  /-- `RD.energyToday`, OP 0x5C: read the field `energyToday` (R156). -/
  | rdEnergyToday
  /-- `RD.totalEnergyGenerated`, OP 0x5D: read the field `totalEnergyGenerated` (R157). -/
  | rdTotalEnergyGenerated
deriving DecidableEq, Repr

/-- The mnemonic of an operation (R65, R76). -/
def Instr.mnemonic : Instr → String
  | .nop => "NOP"
  | .clear => "CLEAR"
  | .push _ => "PUSH"
  | .endFrame => "END"
  | .rdstat => "RDSTAT"
  | .buildcmd _ _ => "BUILDCMD"
  | .rdbyte _ => "RDBYTE"
  | .rdAddress => "RD.address"
  | .rdCommandType => "RD.commandType"
  | .rdControlCode => "RD.controlCode"
  | .rdOperatingStatus => "RD.operatingStatus"
  | .rdChargingStatus => "RD.chargingStatus"
  | .rdControlStatus => "RD.controlStatus"
  | .rdBatteryType => "RD.batteryType"
  | .rdBatteryIdMethod => "RD.batteryIdMethod"
  | .rdNumberOfBatteries => "RD.numberOfBatteries"
  | .rdLoadControlMode => "RD.loadControlMode"
  | .rdMpptAddressConfirm => "RD.mpptAddressConfirm"
  | .rdBaudRate => "RD.baudRate"
  | .rdRatedVoltageLevel => "RD.ratedVoltageLevel"
  | .rdUpperChargeVoltage => "RD.upperChargeVoltage"
  | .rdFloatVoltageLimit => "RD.floatVoltageLimit"
  | .rdLowVoltageDischargeLimit => "RD.lowVoltageDischargeLimit"
  | .rdHardwareMaxChargingCurrentLimit => "RD.hardwareMaxChargingCurrentLimit"
  | .rdDefinedChargeLimit => "RD.definedChargeLimit"
  | .rdRunningChargingCurrentLimit => "RD.runningChargingCurrentLimit"
  | .rdPvVoltageIn => "RD.pvVoltageIn"
  | .rdBatteryVoltage => "RD.batteryVoltage"
  | .rdChargingCurrent => "RD.chargingCurrent"
  | .rdInternalTemperature => "RD.internalTemperature"
  | .rdExternalTemperature => "RD.externalTemperature"
  | .rdEnergyToday => "RD.energyToday"
  | .rdTotalEnergyGenerated => "RD.totalEnergyGenerated"

end Sys2Proof
end

