-- ==== Sys2Proof/Decode.lean ====
section
/-! DEFINITION. HOP24 (`30_encoding.md` section 3): the fields of a host operation word, the decoder, total and
rejecting a reserved operation code by the name of its class, and the encoder. -/

namespace Sys2Proof

/-- `OP`, bits 23:16 (R64). -/
def opOf (w : Hop) : Byte := w.extractLsb' 16 8

/-- `A`, bits 15:8, used as it stands (R64, R66). -/
def operandA (w : Hop) : Byte := w.extractLsb' 8 8

/-- `B`, bits 7:0, used as it stands (R64, R66). -/
def operandB (w : Hop) : Byte := w.extractLsb' 0 8

/-- `HOP = OP . A . B`, `OP` the most significant byte (R64). -/
def hopOf (op a b : Byte) : Hop := op ++ a ++ b

/-- Why a word is an illegal operation (R72); the machine answers each with ILLEGAL_OP (R175). -/
inductive DecodeError where
  /-- OP 0x07..0x3F, reserved in class 0. -/
  | reservedControl (op : Byte)
  /-- OP 0x4C..0x4F and 0x5E..0x7F, a reserved field-select code of class 1. -/
  | reservedField (op : Byte)
  /-- OP 0x80..0xFF, the reserved classes 2 and 3. -/
  | reservedClass (op : Byte)
deriving DecidableEq, Repr

/-- The reserved operation codes as R72 lists them: 0x07..0x3F, 0x4C..0x4F, 0x5E..0xFF. -/
def reservedOp (op : Byte) : Bool :=
  (0x07 ≤ op.toNat && op.toNat ≤ 0x3F) || (0x4C ≤ op.toNat && op.toNat ≤ 0x4F) || 0x5E ≤ op.toNat

/-- Class 0 (`OP[7:6] = 00`), control and raw access (R65). -/
def decodeControl (w : Hop) : Except DecodeError Instr :=
  match (opOf w).toNat with
  | 0x00 => .ok .nop
  | 0x01 => .ok .clear
  | 0x02 => .ok (.push (operandA w))
  | 0x03 => .ok .endFrame
  | 0x04 => .ok .rdstat
  | 0x05 => .ok (.buildcmd (operandA w) (operandB w))
  | 0x06 => .ok (.rdbyte (operandA w))
  | _ => .error (.reservedControl (opOf w))

/-- Class 1 (`OP[7:6] = 01`), field reads, `OP = 0x40 + FSEL` (R65). -/
def decodeField (w : Hop) : Except DecodeError Instr :=
  match (opOf w).toNat with
  | 0x40 => .ok .rdAddress
  | 0x41 => .ok .rdCommandType
  | 0x42 => .ok .rdControlCode
  | 0x43 => .ok .rdOperatingStatus
  | 0x44 => .ok .rdChargingStatus
  | 0x45 => .ok .rdControlStatus
  | 0x46 => .ok .rdBatteryType
  | 0x47 => .ok .rdBatteryIdMethod
  | 0x48 => .ok .rdNumberOfBatteries
  | 0x49 => .ok .rdLoadControlMode
  | 0x4A => .ok .rdMpptAddressConfirm
  | 0x4B => .ok .rdBaudRate
  | 0x50 => .ok .rdRatedVoltageLevel
  | 0x51 => .ok .rdUpperChargeVoltage
  | 0x52 => .ok .rdFloatVoltageLimit
  | 0x53 => .ok .rdLowVoltageDischargeLimit
  | 0x54 => .ok .rdHardwareMaxChargingCurrentLimit
  | 0x55 => .ok .rdDefinedChargeLimit
  | 0x56 => .ok .rdRunningChargingCurrentLimit
  | 0x57 => .ok .rdPvVoltageIn
  | 0x58 => .ok .rdBatteryVoltage
  | 0x59 => .ok .rdChargingCurrent
  | 0x5A => .ok .rdInternalTemperature
  | 0x5B => .ok .rdExternalTemperature
  | 0x5C => .ok .rdEnergyToday
  | 0x5D => .ok .rdTotalEnergyGenerated
  | _ => .error (.reservedField (opOf w))

/-- The operation a word stands for, or the name of its reserved code (R65, R72, R73). -/
def decode (w : Hop) : Except DecodeError Instr :=
  if (opOf w).toNat < 0x40 then decodeControl w
  else if (opOf w).toNat < 0x80 then decodeField w
  else .error (.reservedClass (opOf w))

/-- The operation code of an operation (R65). -/
def Instr.opcode : Instr → Byte
  | .nop => 0x00#8
  | .clear => 0x01#8
  | .push _ => 0x02#8
  | .endFrame => 0x03#8
  | .rdstat => 0x04#8
  | .buildcmd _ _ => 0x05#8
  | .rdbyte _ => 0x06#8
  | .rdAddress => 0x40#8
  | .rdCommandType => 0x41#8
  | .rdControlCode => 0x42#8
  | .rdOperatingStatus => 0x43#8
  | .rdChargingStatus => 0x44#8
  | .rdControlStatus => 0x45#8
  | .rdBatteryType => 0x46#8
  | .rdBatteryIdMethod => 0x47#8
  | .rdNumberOfBatteries => 0x48#8
  | .rdLoadControlMode => 0x49#8
  | .rdMpptAddressConfirm => 0x4A#8
  | .rdBaudRate => 0x4B#8
  | .rdRatedVoltageLevel => 0x50#8
  | .rdUpperChargeVoltage => 0x51#8
  | .rdFloatVoltageLimit => 0x52#8
  | .rdLowVoltageDischargeLimit => 0x53#8
  | .rdHardwareMaxChargingCurrentLimit => 0x54#8
  | .rdDefinedChargeLimit => 0x55#8
  | .rdRunningChargingCurrentLimit => 0x56#8
  | .rdPvVoltageIn => 0x57#8
  | .rdBatteryVoltage => 0x58#8
  | .rdChargingCurrent => 0x59#8
  | .rdInternalTemperature => 0x5A#8
  | .rdExternalTemperature => 0x5B#8
  | .rdEnergyToday => 0x5C#8
  | .rdTotalEnergyGenerated => 0x5D#8

/-- The operand byte `A` of an operation; 0 where it is not used (R66, R76). -/
def Instr.byteA : Instr → Byte
  | .push b => b
  | .buildcmd a _ => a
  | .rdbyte i => i
  | .nop => 0x00#8
  | .clear => 0x00#8
  | .endFrame => 0x00#8
  | .rdstat => 0x00#8
  | .rdAddress => 0x00#8
  | .rdCommandType => 0x00#8
  | .rdControlCode => 0x00#8
  | .rdOperatingStatus => 0x00#8
  | .rdChargingStatus => 0x00#8
  | .rdControlStatus => 0x00#8
  | .rdBatteryType => 0x00#8
  | .rdBatteryIdMethod => 0x00#8
  | .rdNumberOfBatteries => 0x00#8
  | .rdLoadControlMode => 0x00#8
  | .rdMpptAddressConfirm => 0x00#8
  | .rdBaudRate => 0x00#8
  | .rdRatedVoltageLevel => 0x00#8
  | .rdUpperChargeVoltage => 0x00#8
  | .rdFloatVoltageLimit => 0x00#8
  | .rdLowVoltageDischargeLimit => 0x00#8
  | .rdHardwareMaxChargingCurrentLimit => 0x00#8
  | .rdDefinedChargeLimit => 0x00#8
  | .rdRunningChargingCurrentLimit => 0x00#8
  | .rdPvVoltageIn => 0x00#8
  | .rdBatteryVoltage => 0x00#8
  | .rdChargingCurrent => 0x00#8
  | .rdInternalTemperature => 0x00#8
  | .rdExternalTemperature => 0x00#8
  | .rdEnergyToday => 0x00#8
  | .rdTotalEnergyGenerated => 0x00#8

/-- The operand byte `B` of an operation; 0 where it is not used (R66, R76). -/
def Instr.byteB : Instr → Byte
  | .buildcmd _ f => f
  | .nop => 0x00#8
  | .clear => 0x00#8
  | .push _ => 0x00#8
  | .endFrame => 0x00#8
  | .rdstat => 0x00#8
  | .rdbyte _ => 0x00#8
  | .rdAddress => 0x00#8
  | .rdCommandType => 0x00#8
  | .rdControlCode => 0x00#8
  | .rdOperatingStatus => 0x00#8
  | .rdChargingStatus => 0x00#8
  | .rdControlStatus => 0x00#8
  | .rdBatteryType => 0x00#8
  | .rdBatteryIdMethod => 0x00#8
  | .rdNumberOfBatteries => 0x00#8
  | .rdLoadControlMode => 0x00#8
  | .rdMpptAddressConfirm => 0x00#8
  | .rdBaudRate => 0x00#8
  | .rdRatedVoltageLevel => 0x00#8
  | .rdUpperChargeVoltage => 0x00#8
  | .rdFloatVoltageLimit => 0x00#8
  | .rdLowVoltageDischargeLimit => 0x00#8
  | .rdHardwareMaxChargingCurrentLimit => 0x00#8
  | .rdDefinedChargeLimit => 0x00#8
  | .rdRunningChargingCurrentLimit => 0x00#8
  | .rdPvVoltageIn => 0x00#8
  | .rdBatteryVoltage => 0x00#8
  | .rdChargingCurrent => 0x00#8
  | .rdInternalTemperature => 0x00#8
  | .rdExternalTemperature => 0x00#8
  | .rdEnergyToday => 0x00#8
  | .rdTotalEnergyGenerated => 0x00#8

/-- The word of an operation; unused operands are encoded as 0 (R64, R65, R76). -/
def encode (i : Instr) : Hop := hopOf i.opcode i.byteA i.byteB

/-- The bits of the word that an operation reads: `OP` always, `A` and `B` where R65 does not mark them ignored (R73). -/
def Instr.usedBits : Instr → Hop
  | .push _ => 0xFFFF00#24
  | .rdbyte _ => 0xFFFF00#24
  | .buildcmd _ _ => 0xFFFFFF#24
  | .nop => 0xFF0000#24
  | .clear => 0xFF0000#24
  | .endFrame => 0xFF0000#24
  | .rdstat => 0xFF0000#24
  | .rdAddress => 0xFF0000#24
  | .rdCommandType => 0xFF0000#24
  | .rdControlCode => 0xFF0000#24
  | .rdOperatingStatus => 0xFF0000#24
  | .rdChargingStatus => 0xFF0000#24
  | .rdControlStatus => 0xFF0000#24
  | .rdBatteryType => 0xFF0000#24
  | .rdBatteryIdMethod => 0xFF0000#24
  | .rdNumberOfBatteries => 0xFF0000#24
  | .rdLoadControlMode => 0xFF0000#24
  | .rdMpptAddressConfirm => 0xFF0000#24
  | .rdBaudRate => 0xFF0000#24
  | .rdRatedVoltageLevel => 0xFF0000#24
  | .rdUpperChargeVoltage => 0xFF0000#24
  | .rdFloatVoltageLimit => 0xFF0000#24
  | .rdLowVoltageDischargeLimit => 0xFF0000#24
  | .rdHardwareMaxChargingCurrentLimit => 0xFF0000#24
  | .rdDefinedChargeLimit => 0xFF0000#24
  | .rdRunningChargingCurrentLimit => 0xFF0000#24
  | .rdPvVoltageIn => 0xFF0000#24
  | .rdBatteryVoltage => 0xFF0000#24
  | .rdChargingCurrent => 0xFF0000#24
  | .rdInternalTemperature => 0xFF0000#24
  | .rdExternalTemperature => 0xFF0000#24
  | .rdEnergyToday => 0xFF0000#24
  | .rdTotalEnergyGenerated => 0xFF0000#24

/-- The operation the decoder reads from a table word: its low `nbits` bits as one HOP24 word, every bit above them 0;
none where the word is reserved or wider than HOP24 (log entry 4). -/
def decodeTableWord (nbits w : Nat) : Option Instr :=
  let v := w % 2 ^ nbits
  if v < 2 ^ 24 then
    match decode (BitVec.ofNat 24 v) with
    | .ok i => some i
    | .error _ => none
  else none

end Sys2Proof
end

