-- ==== Sys2Proof/Config.lean ====
section
/-! DEFINITION. The parameters of SFU: the constants the source fixes (`00_scope.md` R6) and the defaults of those it leaves open (R7). -/

namespace Sys2Proof.Config

/-- `FRAME_LEN`: bytes in a response frame (R6). UNVERIFIED (log entry 14): the spec calls the source's literals unaudited; unsafe. -/
abbrev frameLen : Nat := 93

/-- `SUM_LEN`: bytes covered by the frame checksum, indices 0..91 (R6). -/
abbrev sumLen : Nat := 92

/-- `CSUM_IDX`: index of the frame's checksum byte (R6). -/
abbrev csumIdx : Nat := 92

/-- `CMD_LEN`: bytes in a command (R6). -/
abbrev cmdLen : Nat := 8

/-- `CMD_SUM_LEN`: bytes covered by the command checksum (R6). -/
abbrev cmdSumLen : Nat := 7

/-- `FUNC_QUERY`: the one documented function code (R6); `BUILDCMD` accepts any other too (R74). -/
def funcQuery : Byte := 0xB1#8

/-- `CNT_SAT`: the saturation value of the byte counter (R7, R22). -/
abbrev cntSat : Nat := 94

/-- `CMD_PAD`, command bytes 2..6, at its default (R7, R63; conflict C1: the source's §6 wins). -/
def defaultCmdPad : Vector Byte 5 := #v[0x01#8, 0x00#8, 0x00#8, 0x00#8, 0x00#8]

/-- The alternative value of `CMD_PAD`, the source's §3 (R63, conflict C1's losing side, kept as the parameter's other value). -/
def alternativeCmdPad : Vector Byte 5 := #v[0x00#8, 0x00#8, 0x00#8, 0x00#8, 0x00#8]

/-- What a frame-buffer cell that nothing has written reads as after `State.reset`. DESIGN CHOICE (log entry 1): the
spec leaves `RESET_FB` unspecified (R31, R190); unsafe, though no operation can observe it (R26). -/
def unlistedByte : Byte := 0x00#8

end Sys2Proof.Config
end

