-- ==== Sys2Proof/Machine/State.lean ====
section
/-! DEFINITION. The state of one SFU instance (`10_state.md`), the response record (R28), and the state after reset (R31, R190). -/

namespace Sys2Proof.Machine

/-- `STATUS` (R24): four values in two bits, numbered by `Status.code`. -/
inductive Status where
  /-- `RECV` (0): receiving, no verdict yet. -/
  | recv
  /-- `VALID` (1): `FB` holds a frame that passed both checks. -/
  | valid
  /-- `ERR_LENGTH` (2): the last `END` found `CNT != 93`. -/
  | errLength
  /-- `ERR_CHECKSUM` (3): the last `END` found `CNT = 93` and `ACC != FB[92]`. -/
  | errChecksum
deriving DecidableEq, Repr

/-- The data fields of a response (R28), present only when `rc = OK`. Fields an operation does not mention are 0 (R12);
that this holds for `known` too where R28's wording would give 1 is DEDUCED (log entry 6). -/
structure RespData where
  raw   : BitVec 32 := 0#32
  ipart : BitVec 23 := 0#23
  fpart : BitVec 10 := 0#10
  known : Bool := false
  sel   : BitVec 3 := 0#3
  cmd   : Vector Byte 8 := #v[0#8, 0#8, 0#8, 0#8, 0#8, 0#8, 0#8, 0#8]
deriving DecidableEq, Repr

/-- One response (R28, R170). "When `rc != OK`, every other field of the response is not data": only `ok` carries data. -/
inductive Response where
  | ok (d : RespData)
  | lengthError
  | checksumError
  | notValid
  | notReceiving
  | illegalOp
  | indexRange
deriving DecidableEq, Repr

/-- The contents of the frame space (R40): the cells that differ from `Config.unlistedByte`, addresses rising. -/
structure Memory where
  cells : List Host.Cell
deriving DecidableEq, Repr

/-- Why the machine stops. No operation of the spec stops it (R199): see the one constructor. -/
inductive Fault where
  /-- Raised by `memRead` and `memWrite` for an access outside `FB[0..92]`, which R12 leaves undefined and R40 says does
  not exist. No operation makes such an access from any state, so it is never the answer of `exec`. Safe (log entry 7). -/
  | frameAddress (addr : Nat)
deriving DecidableEq, Repr

/-- Why an operation has no meaning. -/
inductive Refusal where
  /-- Raised by `exec` alone, for an operation whose meaning is not written; no arm does. Safe. -/
  | notModelled (mnemonic : String)
deriving DecidableEq, Repr

/-- One SFU instance: the tuple `(FB, CNT, ACC, STATUS)` of R20, the instance's constant `CMD_PAD` (R7, R27), and two
fields of the model's own, which stand for its interface with the host and which no operation reads. -/
structure State where
  /-- `FB[0..92]` (R21). -/
  fb     : Memory
  /-- `CNT`, 7 bits (R22). -/
  cnt    : BitVec 7
  /-- `ACC`, 8 bits (R23). -/
  acc    : Byte
  /-- `STATUS` (R24). -/
  status : Status
  /-- `CMD_PAD`, a constant of the instance (R7, R63); no operation writes it (log entry 2). -/
  cmdPad : Vector Byte 5
  /-- MODEL'S OWN (log entry 4): the words the host has issued and the unit has not performed, oldest first (R52). -/
  issued : List Hop
  /-- MODEL'S OWN (log entry 3): the response of the last operation performed; none before the first. -/
  resp   : Option Response
deriving DecidableEq, Repr

/-- What one operation answers. -/
abbrev Result := Host.Outcome State Fault Refusal

/-- The state after reset (R31, R190) for any contents of `FB` (`RESET_FB`) and any `CMD_PAD`, the model arguments of R7. -/
def State.resetWith (resetFb : Memory) (cmdPad : Vector Byte 5) : State where
  fb     := resetFb
  cnt    := 0#7
  acc    := 0#8
  status := .recv
  cmdPad := cmdPad
  issued := []
  resp   := none

/-- The machine right after reset: `STATUS = RECV`, `CNT = 0`, `ACC = 0` (R31, R190). DESIGN CHOICE: `FB` holds
`Config.unlistedByte` everywhere (log entry 1), `CMD_PAD` is at its default (log entry 2), nothing is issued (log entry
4) and nothing has been answered (log entry 3). -/
def State.reset : State := State.resetWith ⟨[]⟩ Config.defaultCmdPad

end Sys2Proof.Machine
end

