-- ==== Sys2Proof/Machine/Checksum.lean ====
section
/-! DEFINITION. The functions the source defines over byte sequences (`40_checksum_validator.md` section 1): the 8-bit
sum, `VALIDATE`, and the command of `buildCommand` (`30_encoding.md` R63). -/

namespace Sys2Proof.Machine

/-- `CSUM8(s) = (sum of s[i]) mod 256` (R90): the exact sum, narrowed once. -/
def csum8 (s : List Byte) : Byte := BitVec.ofNat 8 (s.map (·.toNat)).sum

/-- What `VALIDATE` returns (R91). -/
inductive Validation where
  | lengthError
  | checksumError
  | valid (f : List Byte)
deriving DecidableEq, Repr

/-- `VALIDATE(s)` (R91): length first, then the checksum of the first 92 bytes against byte 92, and nothing else. -/
def validate (s : List Byte) : Validation :=
  if s.length ≠ Config.frameLen then .lengthError
  else if csum8 (s.take Config.sumLen) ≠ s.getD Config.csumIdx 0#8 then .checksumError
  else .valid s

/-- The 8-byte command for controller address `a` and function `f` (R63, R99): `a`, `f`, `CMD_PAD`, and the checksum of
those seven bytes. -/
def buildCommand (pad : Vector Byte 5) (a f : Byte) : Vector Byte 8 :=
  #v[a, f, pad[0], pad[1], pad[2], pad[3], pad[4], csum8 ([a, f] ++ pad.toList)]

end Sys2Proof.Machine
end

