-- ==== Sys2Proof/Machine/Flags.lean ====
section
/-! DEFINITION. The numbers of STATUS and of the response codes, and the computations that write `ACC`, `CNT` and
`STATUS` or read them as one word (`10_state.md` R22 to R27, `60_exceptions.md` R170). -/

namespace Sys2Proof.Machine

/-- The 2-bit encoding of `STATUS` (R24). -/
def Status.code : Status → BitVec 2
  | .recv => 0#2
  | .valid => 1#2
  | .errLength => 2#2
  | .errChecksum => 3#2

/-- The response code `rc`, 4 bits (R170). -/
def Response.rc : Response → BitVec 4
  | .ok _ => 0#4
  | .lengthError => 1#4
  | .checksumError => 2#4
  | .notValid => 3#4
  | .notReceiving => 4#4
  | .illegalOp => 5#4
  | .indexRange => 6#4

/-- The status word of `RDSTAT` (R27, R97): `STATUS * 2^15 + CNT * 2^8 + ACC`, 17 bits. -/
def statusWord (status : Status) (cnt : BitVec 7) (acc : Byte) : Nat :=
  status.code.toNat * 2 ^ 15 + cnt.toNat * 2 ^ 8 + acc.toNat

/-- `ACC` after a `PUSH` of `b` (R95): bytes 0..91 are added modulo 256, later ones are not. -/
def accAfterPush (cnt : BitVec 7) (acc b : Byte) : Byte :=
  if cnt.toNat ≤ 91 then acc + b else acc

/-- `CNT` after a `PUSH` (R95): one more, saturating at 94. -/
def cntAfterPush (cnt : BitVec 7) : BitVec 7 :=
  if cnt.toNat ≤ 93 then cnt + 1#7 else cnt

/-- The three verdicts of `END` (R96). -/
inductive Verdict where
  | valid
  | lengthError
  | checksumError
deriving DecidableEq, Repr

/-- The verdict on a frame whose last received byte is `received` (R96): length is tested before checksum. -/
def judge (cnt : BitVec 7) (acc : Byte) (received : Nat) : Verdict :=
  if cnt.toNat ≠ Config.frameLen then .lengthError
  else if acc.toNat ≠ received then .checksumError
  else .valid

/-- What a verdict writes to `STATUS` (R96, R178). -/
def Verdict.status : Verdict → Status
  | .valid => .valid
  | .lengthError => .errLength
  | .checksumError => .errChecksum

/-- What a verdict answers (R96, R170). -/
def Verdict.response : Verdict → Response
  | .valid => .ok {}
  | .lengthError => .lengthError
  | .checksumError => .checksumError

end Sys2Proof.Machine
end

