-- ==== Sys2Proof/Machine/Operands.lean ====
section
/-! DEFINITION. Every operand form and every value an operation computes from one: bits (`00_scope.md` R9), big-endian
assembly (R10), flags, enumerations and scaled values (`30_encoding.md` section 4 and 5), as the data of a response. -/

namespace Sys2Proof.Machine

/-- `bit(v, i) = (v div 2^i) mod 2`, bit 0 the least significant (R9). UNVERIFIED (D11, log entry 10): the source does
not say which end bit 0 is; unsafe. -/
def bit (v i : Nat) : Nat := v / 2 ^ i % 2

/-- `v[hi:lo] = (v div 2^lo) mod 2^(hi-lo+1)` (R9). -/
def bitRange (v hi lo : Nat) : Nat := v / 2 ^ lo % 2 ^ (hi - lo + 1)

/-- `BE(s)`, the sum of `s[i] * 256^(n-1-i)`: the byte at the lowest index is the most significant (R10, R46). -/
def bigEndian : List Byte → Nat
  | [] => 0
  | b :: rest => b.toNat * 256 ^ rest.length + bigEndian rest

/-- `zext_32` (R11): a raw value in the 32 bits of `resp.raw`. -/
def zext32 (v : Nat) : BitVec 32 := BitVec.ofNat 32 v

/-- Flag `i` of a status byte: 1 is true (R68). UNVERIFIED (D11, log entry 10); unsafe. -/
def flag (v i : Nat) : Bool := bit v i == 1

/-- The data of a raw byte: `raw: zext_32(v), known: 1` (R112 to R118, R121, R123). -/
def rawData (v : Nat) : RespData := { raw := zext32 v, known := true }

/-- The data of a zero-based enumeration of `size` entries (R119, R122): a code outside the list is `known = 0, sel = 0`.
UNVERIFIED (D15, log entry 13): the source does not state the base; unsafe. -/
def enumData (size v : Nat) : RespData :=
  if v < size then { raw := zext32 v, known := true, sel := BitVec.ofNat 3 v }
  else { raw := zext32 v, known := false, sel := 0#3 }

/-- The data of the two-way field `batteryIdMethod` (R120): 0 is auto, every other code manual. -/
def twoWayData (v : Nat) : RespData :=
  { raw := zext32 v, known := true, sel := if v = 0 then 0#3 else 1#3 }

/-- The data of `baudRate` (R124): code 1..4 has index code minus 1 and the rate `1200 * 2^(code-1)`; any other code,
0 among them, is unknown. -/
def baudData (v : Nat) : RespData :=
  if 1 ≤ v ∧ v ≤ 4 then
    { raw := zext32 v, known := true, sel := BitVec.ofNat 3 (v - 1), ipart := BitVec.ofNat 23 (1200 * 2 ^ (v - 1)) }
  else { raw := zext32 v, known := false, sel := 0#3, ipart := 0#23 }

/-- The data of a scaled field: `SCALE(raw, S)` with `ipart = raw div S`, `fpart = raw mod S` (R140, R141). -/
def scaledData (scale v : Nat) : RespData :=
  { raw := zext32 v, ipart := BitVec.ofNat 23 (v / scale), fpart := BitVec.ofNat 10 (v % scale), known := true }

end Sys2Proof.Machine
end

