-- ==== Sys2Proof/Machine/Ops.lean ====
section
/-! DEFINITION. The shared operations of the meanings: the frame buffer, the answer, and what takes the place of an
exception on SFU: a refusal, a verdict (`60_exceptions.md` R178) and the return from one (R180), and the decode gate
(`41_frame_parser.md` R125). -/

namespace Sys2Proof.Machine

/-- The byte at an address: the listed one, else `Config.unlistedByte`. -/
def readCells : List Host.Cell → Nat → Byte
  | [], _ => Config.unlistedByte
  | (a, b) :: rest, x => if a = x then b else readCells rest x

/-- A cell inserted before the first one of a greater address. -/
def insertCell (x : Nat) (v : Byte) : List Host.Cell → List Host.Cell
  | [] => [(x, v)]
  | (a, b) :: rest => if x < a then (x, v) :: (a, b) :: rest else (a, b) :: insertCell x v rest

/-- `FB[i]` read (R12). -/
def Memory.read (m : Memory) (a : Nat) : Byte := readCells m.cells a

/-- `FB[i] <- v` (R12), keeping the canonical form: the old entry goes, a new one comes only for a listed value. -/
def Memory.write (m : Memory) (a : Nat) (v : Byte) : Memory :=
  let rest := m.cells.filter (fun c => decide (c.1 ≠ a))
  if v = Config.unlistedByte then ⟨rest⟩ else ⟨insertCell a v rest⟩

/-- Cells from `lo` up, strictly rising, inside the frame space, none equal to what an unlisted address reads as. -/
def canonicalFrom : Nat → List Host.Cell → Bool
  | _, [] => true
  | lo, (a, b) :: rest => lo ≤ a && a < Config.frameLen && b != Config.unlistedByte && canonicalFrom (a + 1) rest

/-- The canonical form of a memory. -/
def Memory.wf (m : Memory) : Bool := canonicalFrom 0 m.cells

/-- The bytes of `FB[lo..lo+n)`. -/
def Memory.bytes (m : Memory) (lo n : Nat) : List Byte := (List.range n).map (fun j => m.read (lo + j))

/-- The memory that holds `s` from address `lo` on and what `m` held elsewhere. -/
def Memory.writeBytes (m : Memory) (lo : Nat) : List Byte → Memory
  | [] => m
  | b :: rest => (m.write lo b).writeBytes (lo + 1) rest

/-- `resp <- r` (R12, R28). -/
def State.respond (s : State) (r : Response) : State := { s with resp := some r }

/-- A refusal (R178): "nothing at all changes", and the answer is its code. -/
def State.refuse (s : State) (r : Response) : State := s.respond r

/-- A verdict (R96, R178): `STATUS` takes its value; `CNT`, `ACC` and `FB` are kept. -/
def State.conclude (s : State) (v : Verdict) : State :=
  { s with status := v.status, resp := some v.response }

/-- The return from any verdict (R94, R180): `CNT <- 0; ACC <- 0; STATUS <- RECV`, `FB` kept. -/
def State.startFrame (s : State) : State :=
  { s with cnt := 0#7, acc := 0#8, status := .recv, resp := some (.ok {}) }

/-- `MemRead(addr, n) = BE(FB[addr..addr+n))`, "defined only for `addr + n <= 93`" (R12). -/
def memRead (s : State) (addr n : Nat) (k : Nat → Result) : Result :=
  if addr + n ≤ Config.frameLen then k (bigEndian (s.fb.bytes addr n)) else .fault (.frameAddress addr)

/-- `MemWrite(addr, 1, v)`: `FB[addr] <- v` (R12); no address above 92 exists (R40). -/
def memWrite (s : State) (addr : Nat) (v : Byte) (k : Memory → Result) : Result :=
  if addr < Config.frameLen then k (s.fb.write addr v) else .fault (.frameAddress addr)

/-- The store of a `PUSH` (R95): at address `CNT` while `CNT <= 92`, else nowhere. -/
def storeIncoming (s : State) (b : Byte) (k : Memory → Result) : Result :=
  if s.cnt.toNat ≤ Config.csumIdx then memWrite s s.cnt.toNat b k else k s.fb

/-- What an operation that receives a frame does while `STATUS = RECV`; else NOT_RECEIVING, no state change (R95, R96, R174). -/
def whileReceiving (s : State) (body : Result) : Result :=
  if s.status = .recv then body else .next (s.refuse .notReceiving)

/-- The gate shared by every read (R125, R173): the body only while `STATUS = VALID`; else NOT_VALID, no data, no state change. -/
def whileValid (s : State) (body : Result) : Result :=
  if s.status = .valid then body else .next (s.refuse .notValid)

/-- Read `n` bytes at `lo` of the validated frame and answer them as `present` says; no state is written (R125, R141). -/
def readFrame (lo n : Nat) (present : Nat → RespData) (s : State) : Result :=
  whileValid s (memRead s lo n fun v => .next (s.respond (.ok (present v))))

end Sys2Proof.Machine
end

