-- ==== Sys2Proof/Machine/ChecksumValidator.lean ====
section
/-! DEFINITION. The meanings of the control and checksum operations (`40_checksum_validator.md` section 2). -/

namespace Sys2Proof.Machine

/-- `NOP` (R98): no state change. -/
def execNop (s : State) : Result := .next (s.respond (.ok {}))

/-- `CLEAR` (R94): start a new frame, in every status. -/
def execClear (s : State) : Result := .next s.startFrame

/-- `PUSH b` (R95). All assignments happen together (R12): every right-hand side reads the state before. -/
def execPush (b : Byte) (s : State) : Result :=
  whileReceiving s (storeIncoming s b fun fb =>
    .next { s with
      fb := fb
      acc := accAfterPush s.cnt s.acc b
      cnt := cntAfterPush s.cnt
      resp := some (.ok {}) })

/-- `END` (R96): judge the frame; it reads cell 92 of `FB` only (R21). -/
def execEndFrame (s : State) : Result :=
  whileReceiving s (memRead s Config.csumIdx 1 fun received =>
    .next (s.conclude (judge s.cnt s.acc received)))

/-- `RDSTAT` (R97), in every status. Its `known` is 0 (R12; DEDUCED, log entry 6). -/
def execRdstat (s : State) : Result :=
  .next (s.respond (.ok { raw := zext32 (statusWord s.status s.cnt s.acc) }))

/-- `BUILDCMD a, f` (R99), in every status. Its `known` is 0 (R12; DEDUCED, log entry 6). -/
def execBuildcmd (a f : Byte) (s : State) : Result :=
  .next (s.respond (.ok { cmd := buildCommand s.cmdPad a f }))

end Sys2Proof.Machine
end

