-- ==== Sys2Proof/Machine/Fields.lean ====
section
/-! DEFINITION. The field table of FRAME93 (`30_encoding.md` R62, `42_scaled_numeric_decoder.md` R143), the map of the
frame space (`20_memory.md` R43), and the field a read operation reads. -/

namespace Sys2Proof.Machine

/-- Units of the scaled fields, labels only (R143). -/
inductive PhysUnit where
  | volt
  | ampere
  | celsius
  | kilowattHour
deriving DecidableEq, Repr

/-- The kind of a field (R62). -/
inductive FieldKind where
  | rawByte
  /-- eight flags without names (R116, R117) -/
  | flags
  /-- a raw byte with five named flags (R118) -/
  | namedFlags
  /-- a zero-based enumeration of `size` entries (R119, R122) -/
  | enumeration (size : Nat)
  /-- zero or non-zero (R120) -/
  | twoWay
  /-- the enumeration indexed by code minus 1 (R124) -/
  | baudRate
  /-- a scaled unsigned integer (R140) -/
  | scaled (scale : Nat) (unit : PhysUnit)
deriving DecidableEq, Repr

/-- A row of the field table (R62): field-select code, first byte, number of bytes, kind. -/
structure Field where
  fsel : Nat
  lo   : Nat
  n    : Nat
  kind : FieldKind
deriving DecidableEq, Repr

/-- How a field's raw value is answered (R112 to R124, R141). -/
def FieldKind.present : FieldKind → Nat → RespData
  | .rawByte => rawData
  | .flags => rawData
  | .namedFlags => rawData
  | .enumeration size => enumData size
  | .twoWay => twoWayData
  | .baudRate => baudData
  | .scaled scale _ => scaledData scale

/-- Read a field of the validated frame (R125, R67). -/
def readField (f : Field) (s : State) : Result := readFrame f.lo f.n f.kind.present s

/-- `address` (R113). Offset by D12 (log entry 11). -/
def Field.address : Field := ⟨0, 0, 1, .rawByte⟩
/-- `commandType` (R114). Offset by D12 (log entry 11). -/
def Field.commandType : Field := ⟨1, 1, 1, .rawByte⟩
/-- `controlCode` (R115). Offset by D12 (log entry 11). -/
def Field.controlCode : Field := ⟨2, 2, 1, .rawByte⟩
/-- `operatingStatus` (R116). -/
def Field.operatingStatus : Field := ⟨3, 3, 1, .flags⟩
/-- `chargingStatus` (R117). -/
def Field.chargingStatus : Field := ⟨4, 4, 1, .flags⟩
/-- `controlStatus` (R118). -/
def Field.controlStatus : Field := ⟨5, 5, 1, .namedFlags⟩
/-- `batteryType` (R119). -/
def Field.batteryType : Field := ⟨6, 8, 1, .enumeration 4⟩
/-- `batteryIdMethod` (R120). -/
def Field.batteryIdMethod : Field := ⟨7, 9, 1, .twoWay⟩
/-- `numberOfBatteries` (R121). -/
def Field.numberOfBatteries : Field := ⟨8, 10, 1, .rawByte⟩
/-- `loadControlMode` (R122). -/
def Field.loadControlMode : Field := ⟨9, 11, 1, .enumeration 5⟩
/-- `mpptAddressConfirm` (R123). -/
def Field.mpptAddressConfirm : Field := ⟨10, 12, 1, .rawByte⟩
/-- `baudRate` (R124). -/
def Field.baudRate : Field := ⟨11, 13, 1, .baudRate⟩
/-- `ratedVoltageLevel` (R144). -/
def Field.ratedVoltageLevel : Field := ⟨16, 16, 2, .scaled 100 .volt⟩
/-- `upperChargeVoltage` (R145). -/
def Field.upperChargeVoltage : Field := ⟨17, 18, 2, .scaled 100 .volt⟩
/-- `floatVoltageLimit` (R146). -/
def Field.floatVoltageLimit : Field := ⟨18, 20, 2, .scaled 100 .volt⟩
/-- `lowVoltageDischargeLimit` (R147). -/
def Field.lowVoltageDischargeLimit : Field := ⟨19, 22, 2, .scaled 100 .volt⟩
/-- `hardwareMaxChargingCurrentLimit` (R148). -/
def Field.hardwareMaxChargingCurrentLimit : Field := ⟨20, 24, 2, .scaled 100 .ampere⟩
/-- `definedChargeLimit` (R149). -/
def Field.definedChargeLimit : Field := ⟨21, 26, 2, .scaled 100 .ampere⟩
/-- `runningChargingCurrentLimit` (R150). -/
def Field.runningChargingCurrentLimit : Field := ⟨22, 28, 2, .scaled 100 .ampere⟩
/-- `pvVoltageIn` (R151). -/
def Field.pvVoltageIn : Field := ⟨23, 30, 2, .scaled 10 .volt⟩
/-- `batteryVoltage` (R152). -/
def Field.batteryVoltage : Field := ⟨24, 32, 2, .scaled 100 .volt⟩
/-- `chargingCurrent` (R153). -/
def Field.chargingCurrent : Field := ⟨25, 34, 2, .scaled 100 .ampere⟩
/-- `internalTemperature` (R154). -/
def Field.internalTemperature : Field := ⟨26, 36, 2, .scaled 10 .celsius⟩
/-- `externalTemperature` (R155). -/
def Field.externalTemperature : Field := ⟨27, 40, 2, .scaled 10 .celsius⟩
/-- `energyToday` (R156). -/
def Field.energyToday : Field := ⟨28, 44, 4, .scaled 1000 .kilowattHour⟩
/-- `totalEnergyGenerated` (R157). -/
def Field.totalEnergyGenerated : Field := ⟨29, 48, 4, .scaled 1000 .kilowattHour⟩

/-- The field table, in ascending FSEL order (R62). -/
def fieldTable : List Field := [
  .address, .commandType, .controlCode, .operatingStatus,
  .chargingStatus, .controlStatus, .batteryType, .batteryIdMethod,
  .numberOfBatteries, .loadControlMode, .mpptAddressConfirm, .baudRate,
  .ratedVoltageLevel, .upperChargeVoltage, .floatVoltageLimit, .lowVoltageDischargeLimit,
  .hardwareMaxChargingCurrentLimit, .definedChargeLimit, .runningChargingCurrentLimit, .pvVoltageIn,
  .batteryVoltage, .chargingCurrent, .internalTemperature, .externalTemperature,
  .energyToday, .totalEnergyGenerated]

/-- The content of a range of the frame space (R43). -/
inductive RegionKind where
  | field (f : Field)
  /-- bytes the source never mentions (R44) -/
  | unlisted
  /-- "reserved" in the source's own word (R44) -/
  | reserved
  /-- the checksum byte -/
  | checksum
deriving DecidableEq, Repr

/-- A row of the address map (R43). -/
structure Region where
  lo   : Nat
  n    : Nat
  kind : RegionKind
deriving DecidableEq, Repr

/-- The address map of the frame space (R43). -/
def frameMap : List Region :=
  fieldTable.map (fun f => ⟨f.lo, f.n, .field f⟩) ++
    [⟨6, 2, .unlisted⟩, ⟨14, 2, .unlisted⟩, ⟨38, 2, .unlisted⟩, ⟨42, 2, .reserved⟩, ⟨52, 40, .unlisted⟩, ⟨92, 1, .checksum⟩]

/-- An address lies in a region. -/
def Region.covers (r : Region) (a : Nat) : Bool := r.lo ≤ a && a < r.lo + r.n

/-- The field a `RD.<field>` operation reads (R62); none for the other seven operations. -/
def fieldOf : Instr → Option Field
  | .nop => none
  | .clear => none
  | .push _ => none
  | .endFrame => none
  | .rdstat => none
  | .buildcmd _ _ => none
  | .rdbyte _ => none
  | .rdAddress => some .address
  | .rdCommandType => some .commandType
  | .rdControlCode => some .controlCode
  | .rdOperatingStatus => some .operatingStatus
  | .rdChargingStatus => some .chargingStatus
  | .rdControlStatus => some .controlStatus
  | .rdBatteryType => some .batteryType
  | .rdBatteryIdMethod => some .batteryIdMethod
  | .rdNumberOfBatteries => some .numberOfBatteries
  | .rdLoadControlMode => some .loadControlMode
  | .rdMpptAddressConfirm => some .mpptAddressConfirm
  | .rdBaudRate => some .baudRate
  | .rdRatedVoltageLevel => some .ratedVoltageLevel
  | .rdUpperChargeVoltage => some .upperChargeVoltage
  | .rdFloatVoltageLimit => some .floatVoltageLimit
  | .rdLowVoltageDischargeLimit => some .lowVoltageDischargeLimit
  | .rdHardwareMaxChargingCurrentLimit => some .hardwareMaxChargingCurrentLimit
  | .rdDefinedChargeLimit => some .definedChargeLimit
  | .rdRunningChargingCurrentLimit => some .runningChargingCurrentLimit
  | .rdPvVoltageIn => some .pvVoltageIn
  | .rdBatteryVoltage => some .batteryVoltage
  | .rdChargingCurrent => some .chargingCurrent
  | .rdInternalTemperature => some .internalTemperature
  | .rdExternalTemperature => some .externalTemperature
  | .rdEnergyToday => some .energyToday
  | .rdTotalEnergyGenerated => some .totalEnergyGenerated

/-- The first address and the number of bytes of `FB` a read operation reads (R49, R158); none for the operations that
are no reads. -/
def frameRange : Instr → Option (Nat × Nat)
  | .rdbyte i => some (i.toNat, 1)
  | .nop => none
  | .clear => none
  | .push _ => none
  | .endFrame => none
  | .rdstat => none
  | .buildcmd _ _ => none
  | .rdAddress => some (Field.address.lo, Field.address.n)
  | .rdCommandType => some (Field.commandType.lo, Field.commandType.n)
  | .rdControlCode => some (Field.controlCode.lo, Field.controlCode.n)
  | .rdOperatingStatus => some (Field.operatingStatus.lo, Field.operatingStatus.n)
  | .rdChargingStatus => some (Field.chargingStatus.lo, Field.chargingStatus.n)
  | .rdControlStatus => some (Field.controlStatus.lo, Field.controlStatus.n)
  | .rdBatteryType => some (Field.batteryType.lo, Field.batteryType.n)
  | .rdBatteryIdMethod => some (Field.batteryIdMethod.lo, Field.batteryIdMethod.n)
  | .rdNumberOfBatteries => some (Field.numberOfBatteries.lo, Field.numberOfBatteries.n)
  | .rdLoadControlMode => some (Field.loadControlMode.lo, Field.loadControlMode.n)
  | .rdMpptAddressConfirm => some (Field.mpptAddressConfirm.lo, Field.mpptAddressConfirm.n)
  | .rdBaudRate => some (Field.baudRate.lo, Field.baudRate.n)
  | .rdRatedVoltageLevel => some (Field.ratedVoltageLevel.lo, Field.ratedVoltageLevel.n)
  | .rdUpperChargeVoltage => some (Field.upperChargeVoltage.lo, Field.upperChargeVoltage.n)
  | .rdFloatVoltageLimit => some (Field.floatVoltageLimit.lo, Field.floatVoltageLimit.n)
  | .rdLowVoltageDischargeLimit => some (Field.lowVoltageDischargeLimit.lo, Field.lowVoltageDischargeLimit.n)
  | .rdHardwareMaxChargingCurrentLimit => some (Field.hardwareMaxChargingCurrentLimit.lo, Field.hardwareMaxChargingCurrentLimit.n)
  | .rdDefinedChargeLimit => some (Field.definedChargeLimit.lo, Field.definedChargeLimit.n)
  | .rdRunningChargingCurrentLimit => some (Field.runningChargingCurrentLimit.lo, Field.runningChargingCurrentLimit.n)
  | .rdPvVoltageIn => some (Field.pvVoltageIn.lo, Field.pvVoltageIn.n)
  | .rdBatteryVoltage => some (Field.batteryVoltage.lo, Field.batteryVoltage.n)
  | .rdChargingCurrent => some (Field.chargingCurrent.lo, Field.chargingCurrent.n)
  | .rdInternalTemperature => some (Field.internalTemperature.lo, Field.internalTemperature.n)
  | .rdExternalTemperature => some (Field.externalTemperature.lo, Field.externalTemperature.n)
  | .rdEnergyToday => some (Field.energyToday.lo, Field.energyToday.n)
  | .rdTotalEnergyGenerated => some (Field.totalEnergyGenerated.lo, Field.totalEnergyGenerated.n)

/-- The reads of frame contents: `RDBYTE` and every `RD.<field>` (R26, R125). -/
def isRead (i : Instr) : Bool := (frameRange i).isSome

/-- The addresses whose bytes a read operation reads (R111, R158). -/
def footprint (i : Instr) : List Nat :=
  match frameRange i with
  | some (lo, n) => (List.range n).map (lo + ·)
  | none => []

end Sys2Proof.Machine
end

