-- ==== Sys2Proof/Machine/FrameParser.lean ====
section
/-! DEFINITION. The meanings of the frame parser's operations: `RDBYTE` and the twelve single-byte reads (`41_frame_parser.md`). -/

namespace Sys2Proof.Machine

/-- `RDBYTE i` (R112): the gate first, then the index (R179). -/
def execRdbyte (i : Byte) (s : State) : Result :=
  if i.toNat ≤ Config.csumIdx then readFrame i.toNat 1 rawData s
  else whileValid s (.next (s.refuse .indexRange))

/-- `RD.address` (R113). -/
def execRdAddress (s : State) : Result := readField .address s

/-- `RD.commandType` (R114). -/
def execRdCommandType (s : State) : Result := readField .commandType s

/-- `RD.controlCode` (R115). -/
def execRdControlCode (s : State) : Result := readField .controlCode s

/-- `RD.operatingStatus` (R116). -/
def execRdOperatingStatus (s : State) : Result := readField .operatingStatus s

/-- `RD.chargingStatus` (R117). -/
def execRdChargingStatus (s : State) : Result := readField .chargingStatus s

/-- `RD.controlStatus` (R118). -/
def execRdControlStatus (s : State) : Result := readField .controlStatus s

/-- `RD.batteryType` (R119). -/
def execRdBatteryType (s : State) : Result := readField .batteryType s

/-- `RD.batteryIdMethod` (R120). -/
def execRdBatteryIdMethod (s : State) : Result := readField .batteryIdMethod s

/-- `RD.numberOfBatteries` (R121). -/
def execRdNumberOfBatteries (s : State) : Result := readField .numberOfBatteries s

/-- `RD.loadControlMode` (R122). -/
def execRdLoadControlMode (s : State) : Result := readField .loadControlMode s

/-- `RD.mpptAddressConfirm` (R123). -/
def execRdMpptAddressConfirm (s : State) : Result := readField .mpptAddressConfirm s

/-- `RD.baudRate` (R124). -/
def execRdBaudRate (s : State) : Result := readField .baudRate s

end Sys2Proof.Machine
end

