-- ==== Sys2Proof/Machine/ScaledDecoder.lean ====
section
/-! DEFINITION. The meanings of the fourteen scaled reads (`42_scaled_numeric_decoder.md` section 2), each the common body of R141 at its row of R143. -/

namespace Sys2Proof.Machine

/-- `RD.ratedVoltageLevel` (R144). -/
def execRdRatedVoltageLevel (s : State) : Result := readField .ratedVoltageLevel s

/-- `RD.upperChargeVoltage` (R145). -/
def execRdUpperChargeVoltage (s : State) : Result := readField .upperChargeVoltage s

/-- `RD.floatVoltageLimit` (R146). -/
def execRdFloatVoltageLimit (s : State) : Result := readField .floatVoltageLimit s

/-- `RD.lowVoltageDischargeLimit` (R147). -/
def execRdLowVoltageDischargeLimit (s : State) : Result := readField .lowVoltageDischargeLimit s

/-- `RD.hardwareMaxChargingCurrentLimit` (R148). -/
def execRdHardwareMaxChargingCurrentLimit (s : State) : Result := readField .hardwareMaxChargingCurrentLimit s

/-- `RD.definedChargeLimit` (R149). -/
def execRdDefinedChargeLimit (s : State) : Result := readField .definedChargeLimit s

/-- `RD.runningChargingCurrentLimit` (R150). -/
def execRdRunningChargingCurrentLimit (s : State) : Result := readField .runningChargingCurrentLimit s

/-- `RD.pvVoltageIn` (R151). -/
def execRdPvVoltageIn (s : State) : Result := readField .pvVoltageIn s

/-- `RD.batteryVoltage` (R152). -/
def execRdBatteryVoltage (s : State) : Result := readField .batteryVoltage s

/-- `RD.chargingCurrent` (R153). -/
def execRdChargingCurrent (s : State) : Result := readField .chargingCurrent s

/-- `RD.internalTemperature` (R154). -/
def execRdInternalTemperature (s : State) : Result := readField .internalTemperature s

/-- `RD.externalTemperature` (R155). -/
def execRdExternalTemperature (s : State) : Result := readField .externalTemperature s

/-- `RD.energyToday` (R156). -/
def execRdEnergyToday (s : State) : Result := readField .energyToday s

/-- `RD.totalEnergyGenerated` (R157). -/
def execRdTotalEnergyGenerated (s : State) : Result := readField .totalEnergyGenerated s

end Sys2Proof.Machine
end

