-- ==== Sys2Proof/Machine/Dispatch.lean ====
section
/-! DEFINITION. The dispatch: one meaning per operation. -/

namespace Sys2Proof.Machine

def exec (i : Instr) (s : State) : Host.Outcome State Fault Refusal :=
  match i with
  | .nop => Sys2Proof.Machine.execNop s
  | .clear => Sys2Proof.Machine.execClear s
  | .push b => Sys2Proof.Machine.execPush b s
  | .endFrame => Sys2Proof.Machine.execEndFrame s
  | .rdstat => Sys2Proof.Machine.execRdstat s
  | .buildcmd a f => Sys2Proof.Machine.execBuildcmd a f s
  | .rdbyte a => Sys2Proof.Machine.execRdbyte a s
  | .rdAddress => Sys2Proof.Machine.execRdAddress s
  | .rdCommandType => Sys2Proof.Machine.execRdCommandType s
  | .rdControlCode => Sys2Proof.Machine.execRdControlCode s
  | .rdOperatingStatus => Sys2Proof.Machine.execRdOperatingStatus s
  | .rdChargingStatus => Sys2Proof.Machine.execRdChargingStatus s
  | .rdControlStatus => Sys2Proof.Machine.execRdControlStatus s
  | .rdBatteryType => Sys2Proof.Machine.execRdBatteryType s
  | .rdBatteryIdMethod => Sys2Proof.Machine.execRdBatteryIdMethod s
  | .rdNumberOfBatteries => Sys2Proof.Machine.execRdNumberOfBatteries s
  | .rdLoadControlMode => Sys2Proof.Machine.execRdLoadControlMode s
  | .rdMpptAddressConfirm => Sys2Proof.Machine.execRdMpptAddressConfirm s
  | .rdBaudRate => Sys2Proof.Machine.execRdBaudRate s
  | .rdRatedVoltageLevel => Sys2Proof.Machine.execRdRatedVoltageLevel s
  | .rdUpperChargeVoltage => Sys2Proof.Machine.execRdUpperChargeVoltage s
  | .rdFloatVoltageLimit => Sys2Proof.Machine.execRdFloatVoltageLimit s
  | .rdLowVoltageDischargeLimit => Sys2Proof.Machine.execRdLowVoltageDischargeLimit s
  | .rdHardwareMaxChargingCurrentLimit => Sys2Proof.Machine.execRdHardwareMaxChargingCurrentLimit s
  | .rdDefinedChargeLimit => Sys2Proof.Machine.execRdDefinedChargeLimit s
  | .rdRunningChargingCurrentLimit => Sys2Proof.Machine.execRdRunningChargingCurrentLimit s
  | .rdPvVoltageIn => Sys2Proof.Machine.execRdPvVoltageIn s
  | .rdBatteryVoltage => Sys2Proof.Machine.execRdBatteryVoltage s
  | .rdChargingCurrent => Sys2Proof.Machine.execRdChargingCurrent s
  | .rdInternalTemperature => Sys2Proof.Machine.execRdInternalTemperature s
  | .rdExternalTemperature => Sys2Proof.Machine.execRdExternalTemperature s
  | .rdEnergyToday => Sys2Proof.Machine.execRdEnergyToday s
  | .rdTotalEnergyGenerated => Sys2Proof.Machine.execRdTotalEnergyGenerated s

end Sys2Proof.Machine
end

