-- ==== Sys2Proof/Machine/Step.lean ====
section
/-! DEFINITION. One step of the machine: the oldest operation the host has issued is performed. -/

namespace Sys2Proof.Machine

/-- The answer to an illegal operation word (R72, R175): ILLEGAL_OP, no state change, in any status. -/
def State.illegalOp (s : State) : State := s.refuse .illegalOp

/-- One step. The oldest issued word leaves the list and is performed completely (R50, R52): an assigned operation
code by its meaning, a reserved one as ILLEGAL_OP, which is decided before any other test (R179). With nothing issued
nothing changes, for only an operation writes state (R20 to R24; DESIGN CHOICE, log entry 5). -/
def step (s : State) : Host.Outcome State Fault Refusal :=
  match s.issued with
  | [] => .next s
  | w :: rest =>
    match decode w with
    | .ok i => exec i { s with issued := rest }
    | .error _ => .next (State.illegalOp { s with issued := rest })

/-- The host issues the operation word `w` ahead of everything else, so that the next step performs it (log entry 4).
The word is the low `nbits` bits of `w`, 0 above them. -/
def State.withFetchWord (s : State) (nbits w : Nat) : State :=
  { s with issued := BitVec.ofNat 24 (w % 2 ^ nbits) :: s.issued }

end Sys2Proof.Machine
end

