-- ==== Sys2Proof/Machine/Program.lean ====
section
/-! DEFINITION. The pseudo-operations (`30_encoding.md` R77) and what a sequence of operations does and answers. -/

namespace Sys2Proof.Machine

/-- `PUSHN b0 .. bk` is `PUSH b0; ..; PUSH bk` (R77). -/
def pushN (bs : List Byte) : List Instr := bs.map .push

/-- `FRAME b0 .. bk` is `CLEAR; PUSHN b0 .. bk; END` (R77). -/
def frameOps (bs : List Byte) : List Instr := .clear :: (pushN bs ++ [.endFrame])

/-- `READALL` is the 26 `RD.<field>` operations in ascending FSEL order (R77). -/
def readAll : List Instr := [
  .rdAddress, .rdCommandType, .rdControlCode, .rdOperatingStatus,
  .rdChargingStatus, .rdControlStatus, .rdBatteryType, .rdBatteryIdMethod,
  .rdNumberOfBatteries, .rdLoadControlMode, .rdMpptAddressConfirm, .rdBaudRate,
  .rdRatedVoltageLevel, .rdUpperChargeVoltage, .rdFloatVoltageLimit, .rdLowVoltageDischargeLimit,
  .rdHardwareMaxChargingCurrentLimit, .rdDefinedChargeLimit, .rdRunningChargingCurrentLimit, .rdPvVoltageIn,
  .rdBatteryVoltage, .rdChargingCurrent, .rdInternalTemperature, .rdExternalTemperature,
  .rdEnergyToday, .rdTotalEnergyGenerated]

/-- The byte an operation offers, if it is a `PUSH`. -/
def pushedByte : Instr → Option Byte
  | .push b => some b
  | .nop => none
  | .clear => none
  | .endFrame => none
  | .rdstat => none
  | .buildcmd _ _ => none
  | .rdbyte _ => none
  | .rdAddress => none
  | .rdCommandType => none
  | .rdControlCode => none
  | .rdOperatingStatus => none
  | .rdChargingStatus => none
  | .rdControlStatus => none
  | .rdBatteryType => none
  | .rdBatteryIdMethod => none
  | .rdNumberOfBatteries => none
  | .rdLoadControlMode => none
  | .rdMpptAddressConfirm => none
  | .rdBaudRate => none
  | .rdRatedVoltageLevel => none
  | .rdUpperChargeVoltage => none
  | .rdFloatVoltageLimit => none
  | .rdLowVoltageDischargeLimit => none
  | .rdHardwareMaxChargingCurrentLimit => none
  | .rdDefinedChargeLimit => none
  | .rdRunningChargingCurrentLimit => none
  | .rdPvVoltageIn => none
  | .rdBatteryVoltage => none
  | .rdChargingCurrent => none
  | .rdInternalTemperature => none
  | .rdExternalTemperature => none
  | .rdEnergyToday => none
  | .rdTotalEnergyGenerated => none

/-- The bytes a sequence of operations offers, in order. -/
def pushedBytes (ops : List Instr) : List Byte := ops.filterMap pushedByte

/-- The state after a sequence of operations, each performed completely before the next (R52). -/
def execSeq : List Instr → State → Result
  | [], s => .next s
  | i :: rest, s =>
    match exec i s with
    | .next t => execSeq rest t
    | .fault e => .fault e
    | .refused e => .refused e

/-- The responses of a sequence of operations, in order. -/
def responses : List Instr → State → List Response
  | [], _ => []
  | i :: rest, s =>
    match exec i s with
    | .next t => t.resp.toList ++ responses rest t
    | .fault _ => []
    | .refused _ => []

end Sys2Proof.Machine
end

