-- ==== Sys2Proof/Machine/Reading.lean ====
section
/-! DEFINITION. The source's `Reading` and its function `decode(f)` (`41_frame_parser.md` R110), and the Reading a host
assembles from the 26 responses of `READALL` (`30_encoding.md` R77). Neither is state of the unit (R29). -/

namespace Sys2Proof.Machine

/-- `batteryType` (R70, R119). -/
inductive BatteryType where
  | leadAcidMaintenanceFree
  | leadAcidColloid
  | leadAcidLiquid
  | lithium
  | unknown
deriving DecidableEq, Repr

/-- `batteryIdMethod` (R70, R120). -/
inductive BatteryIdMethod where
  | auto
  | manual
deriving DecidableEq, Repr

/-- `loadControlMode` (R70, R122). -/
inductive LoadControlMode where
  | off
  | automatic
  | timeControl
  | lightControl
  | remoteControl
  | unknown
deriving DecidableEq, Repr

/-- `baudRate` (R70, R124): a rate in bits per second, or unknown. -/
inductive BaudRate where
  | bitsPerSecond (rate : Nat)
  | unknown
deriving DecidableEq, Repr

/-- The named flags of `controlStatus` (R118). UNVERIFIED (D14, log entry 12): the pairing is by position; unsafe. -/
structure ControlFlags where
  relay                : Bool
  load                 : Bool
  fan                  : Bool
  overchargeProtection : Bool
  overvoltage          : Bool
deriving DecidableEq, Repr

/-- A scaled value: the triple of R140 with its scale factor. -/
structure ScaledValue where
  raw   : Nat
  ipart : Nat
  fpart : Nat
  scale : Nat
deriving DecidableEq, Repr

/-- `SCALE(raw, S)` (R140). -/
def scaledValue (scale raw : Nat) : ScaledValue := ⟨raw, raw / scale, raw % scale, scale⟩

/-- The exact rational a scaled value denotes, `raw / S` (R13, R140). -/
def ScaledValue.val (v : ScaledValue) : Rat := (v.raw : Rat) / (v.scale : Rat)

/-- The `Reading` of a frame, its 26 components (R110). The flags of the two status bytes have positional names only
(R116, R117, D13): component `i` of the vector is flag `i`. -/
structure Reading where
  address             : Byte
  commandType         : Byte
  controlCode         : Byte
  operatingStatus     : Vector Bool 8
  chargingStatus      : Vector Bool 8
  controlStatus       : Byte
  controlFlags        : ControlFlags
  batteryType         : BatteryType
  batteryIdMethod     : BatteryIdMethod
  numberOfBatteries   : Byte
  loadControlMode     : LoadControlMode
  mpptAddressConfirm  : Byte
  baudRate            : BaudRate
  ratedVoltageLevel : ScaledValue
  upperChargeVoltage : ScaledValue
  floatVoltageLimit : ScaledValue
  lowVoltageDischargeLimit : ScaledValue
  hardwareMaxChargingCurrentLimit : ScaledValue
  definedChargeLimit : ScaledValue
  runningChargingCurrentLimit : ScaledValue
  pvVoltageIn : ScaledValue
  batteryVoltage : ScaledValue
  chargingCurrent : ScaledValue
  internalTemperature : ScaledValue
  externalTemperature : ScaledValue
  energyToday : ScaledValue
  totalEnergyGenerated : ScaledValue
deriving DecidableEq, Repr

/-- The eight flags of a status byte, flag `i` at place `i` (R68, R116, R117). -/
def statusFlags (v : Nat) : Vector Bool 8 :=
  #v[flag v 0, flag v 1, flag v 2, flag v 3, flag v 4, flag v 5, flag v 6, flag v 7]

/-- The named flags of `controlStatus`: bits 0, 1, 2, 4 and 5 (R118); bits 3, 6 and 7 have no name. -/
def controlFlags (v : Nat) : ControlFlags := ⟨flag v 0, flag v 1, flag v 2, flag v 4, flag v 5⟩

/-- The battery type a code stands for (R70). UNVERIFIED (D15, log entry 13); unsafe. -/
def batteryTypeOf : Nat → BatteryType
  | 0 => .leadAcidMaintenanceFree
  | 1 => .leadAcidColloid
  | 2 => .leadAcidLiquid
  | 3 => .lithium
  | _ => .unknown

/-- The identification method a code stands for (R70). -/
def batteryIdMethodOf : Nat → BatteryIdMethod
  | 0 => .auto
  | _ => .manual

/-- The load control mode a code stands for (R70). UNVERIFIED (D15, log entry 13); unsafe. -/
def loadControlModeOf : Nat → LoadControlMode
  | 0 => .off
  | 1 => .automatic
  | 2 => .timeControl
  | 3 => .lightControl
  | 4 => .remoteControl
  | _ => .unknown

/-- The baud rate a code stands for (R70): index code minus 1 into 1200, 2400, 4800, 9600. -/
def baudRateOf : Nat → BaudRate
  | 1 => .bitsPerSecond 1200
  | 2 => .bitsPerSecond 2400
  | 3 => .bitsPerSecond 4800
  | 4 => .bitsPerSecond 9600
  | _ => .unknown

/-- The scale factor of a field (R62); 1 for an unscaled one. -/
def Field.scale (f : Field) : Nat :=
  match f.kind with
  | .scaled scale _ => scale
  | .rawByte | .flags | .namedFlags | .enumeration _ | .twoWay | .baudRate => 1

/-- `raw = BE(f[lo..hi))` of a field of the frame `f` (R67, R110). -/
def Field.rawOf (fd : Field) (f : Nat → Byte) : Nat := bigEndian ((List.range fd.n).map fun j => f (fd.lo + j))

/-- The scaled component of a frame at a field (R110). -/
def Field.scaledOf (fd : Field) (f : Nat → Byte) : ScaledValue := scaledValue fd.scale (fd.rawOf f)

/-- `decode(f)` (R110), `f i` being byte `i` of the frame. The source defines it for a valid frame only. -/
def decodeReading (f : Nat → Byte) : Reading where
  address := f 0
  commandType := f 1
  controlCode := f 2
  operatingStatus := statusFlags (f 3).toNat
  chargingStatus := statusFlags (f 4).toNat
  controlStatus := f 5
  controlFlags := controlFlags (f 5).toNat
  batteryType := batteryTypeOf (f 8).toNat
  batteryIdMethod := batteryIdMethodOf (f 9).toNat
  numberOfBatteries := f 10
  loadControlMode := loadControlModeOf (f 11).toNat
  mpptAddressConfirm := f 12
  baudRate := baudRateOf (f 13).toNat
  ratedVoltageLevel := Field.ratedVoltageLevel.scaledOf f
  upperChargeVoltage := Field.upperChargeVoltage.scaledOf f
  floatVoltageLimit := Field.floatVoltageLimit.scaledOf f
  lowVoltageDischargeLimit := Field.lowVoltageDischargeLimit.scaledOf f
  hardwareMaxChargingCurrentLimit := Field.hardwareMaxChargingCurrentLimit.scaledOf f
  definedChargeLimit := Field.definedChargeLimit.scaledOf f
  runningChargingCurrentLimit := Field.runningChargingCurrentLimit.scaledOf f
  pvVoltageIn := Field.pvVoltageIn.scaledOf f
  batteryVoltage := Field.batteryVoltage.scaledOf f
  chargingCurrent := Field.chargingCurrent.scaledOf f
  internalTemperature := Field.internalTemperature.scaledOf f
  externalTemperature := Field.externalTemperature.scaledOf f
  energyToday := Field.energyToday.scaledOf f
  totalEnergyGenerated := Field.totalEnergyGenerated.scaledOf f

/-- A raw byte as a response carries it. -/
def RespData.rawByte (d : RespData) : Byte := d.raw.setWidth 8

/-- A battery type as a response carries it: `known` is tested before `sel` (R119, R194). -/
def RespData.batteryType (d : RespData) : BatteryType := if d.known then batteryTypeOf d.sel.toNat else .unknown

/-- An identification method as a response carries it (R120). -/
def RespData.batteryIdMethod (d : RespData) : BatteryIdMethod := batteryIdMethodOf d.sel.toNat

/-- A load control mode as a response carries it (R122, R194). -/
def RespData.loadControlMode (d : RespData) : LoadControlMode :=
  if d.known then loadControlModeOf d.sel.toNat else .unknown

/-- A baud rate as a response carries it (R124, R194). -/
def RespData.baudRate (d : RespData) : BaudRate := if d.known then .bitsPerSecond d.ipart.toNat else .unknown

/-- A scaled value as a response carries it (R141), with the scale factor of the operation (R69). -/
def RespData.scaled (fd : Field) (d : RespData) : ScaledValue := ⟨d.raw.toNat, d.ipart.toNat, d.fpart.toNat, fd.scale⟩

/-- The Reading of the 26 responses of `READALL`, in ascending FSEL order (R77); none unless each of them is `OK`. -/
def readingOfResponses : List Response → Option Reading
  | [.ok d0, .ok d1, .ok d2, .ok d3, .ok d4, .ok d5, .ok d6, .ok d7, .ok d8, .ok d9, .ok d10, .ok d11, .ok d12, .ok d13, .ok d14, .ok d15, .ok d16, .ok d17, .ok d18, .ok d19, .ok d20, .ok d21, .ok d22, .ok d23, .ok d24, .ok d25] =>
    some {
      address := d0.rawByte
      commandType := d1.rawByte
      controlCode := d2.rawByte
      operatingStatus := statusFlags d3.raw.toNat
      chargingStatus := statusFlags d4.raw.toNat
      controlStatus := d5.rawByte
      controlFlags := controlFlags d5.raw.toNat
      batteryType := d6.batteryType
      batteryIdMethod := d7.batteryIdMethod
      numberOfBatteries := d8.rawByte
      loadControlMode := d9.loadControlMode
      mpptAddressConfirm := d10.rawByte
      baudRate := d11.baudRate
      ratedVoltageLevel := d12.scaled .ratedVoltageLevel
      upperChargeVoltage := d13.scaled .upperChargeVoltage
      floatVoltageLimit := d14.scaled .floatVoltageLimit
      lowVoltageDischargeLimit := d15.scaled .lowVoltageDischargeLimit
      hardwareMaxChargingCurrentLimit := d16.scaled .hardwareMaxChargingCurrentLimit
      definedChargeLimit := d17.scaled .definedChargeLimit
      runningChargingCurrentLimit := d18.scaled .runningChargingCurrentLimit
      pvVoltageIn := d19.scaled .pvVoltageIn
      batteryVoltage := d20.scaled .batteryVoltage
      chargingCurrent := d21.scaled .chargingCurrent
      internalTemperature := d22.scaled .internalTemperature
      externalTemperature := d23.scaled .externalTemperature
      energyToday := d24.scaled .energyToday
      totalEnergyGenerated := d25.scaled .totalEnergyGenerated
    }
  | _ => none

end Sys2Proof.Machine
end

