-- ==== Sys2Proof/Machine/Text.lean ====
section
/-! DEFINITION. The textual syntax of operations (`30_encoding.md` R76), with the pseudo-operations of R77, and the
decimal numeral of a scaled value (`42_scaled_numeric_decoder.md` R140). Texts are lists of characters. -/

namespace Sys2Proof.Machine

/-- The value of a decimal digit. -/
def decDigit (c : Char) : Option Nat :=
  if 48 ≤ c.toNat ∧ c.toNat ≤ 57 then some (c.toNat - 48) else none

/-- The value of a hexadecimal digit, in either case (DESIGN CHOICE, log entry 15). -/
def hexDigit (c : Char) : Option Nat :=
  if 48 ≤ c.toNat ∧ c.toNat ≤ 57 then some (c.toNat - 48)
  else if 65 ≤ c.toNat ∧ c.toNat ≤ 70 then some (c.toNat - 55)
  else if 97 ≤ c.toNat ∧ c.toNat ≤ 102 then some (c.toNat - 87)
  else none

/-- The value of a string of digits that continues the number `v`. -/
def digitsFrom (base : Nat) (digit : Char → Option Nat) : Nat → List Char → Option Nat
  | v, [] => some v
  | v, c :: cs =>
    match digit c with
    | some d => digitsFrom base digit (v * base + d) cs
    | none => none

/-- A byte numeral, hexadecimal with `0x` or decimal (R76). -/
def byteNumeral (cs : List Char) : Option Byte :=
  let value :=
    match cs with
    | [] => none
    | '0' :: 'x' :: d :: ds => digitsFrom 16 hexDigit 0 (d :: ds)
    | d :: ds => digitsFrom 10 decDigit 0 (d :: ds)
  match value with
  | some v => if v < 256 then some (BitVec.ofNat 8 v) else none
  | none => none

/-- A blank character (DESIGN CHOICE, log entry 15: a space or a tab). -/
def isBlank (c : Char) : Bool := c == ' ' || c == '\t'

/-- A text without the blanks at its two ends. -/
def trim (cs : List Char) : List Char := ((cs.dropWhile isBlank).reverse.dropWhile isBlank).reverse

/-- The pieces of a text between the characters that `sep` accepts. -/
def pieces (sep : Char → Bool) : List Char → List (List Char)
  | [] => [[]]
  | c :: cs =>
    match pieces sep cs with
    | [] => [[c]]
    | p :: ps => if sep c then [] :: p :: ps else (c :: p) :: ps

/-- Byte numerals separated by commas (R76). -/
def commaOperands (cs : List Char) : Option (List Byte) :=
  if cs.isEmpty then some [] else (pieces (· == ',') cs).mapM (fun p => byteNumeral (trim p))

/-- Byte numerals separated by blanks, as `PUSHN` and `FRAME` take them (R77). -/
def blankOperands (cs : List Char) : Option (List Byte) :=
  ((pieces isBlank cs).filter (fun p => !p.isEmpty)).mapM byteNumeral

/-- The operations without operands (R65). -/
def plainOps : List Instr := [.nop, .clear, .endFrame, .rdstat] ++ readAll

/-- The operation of a mnemonic and its used operands (R65, R76). -/
def operationOf (mnemonic : List Char) (operands : List Byte) : Option Instr :=
  match operands with
  | [] => plainOps.find? (fun i => i.mnemonic.toList == mnemonic)
  | [b] =>
    if mnemonic = "PUSH".toList then some (.push b)
    else if mnemonic = "RDBYTE".toList then some (.rdbyte b)
    else none
  | [a, f] => if mnemonic = "BUILDCMD".toList then some (.buildcmd a f) else none
  | _ => none

/-- The operations a line stands for (R76, R77): none for a line that is empty but for a comment. -/
def assembleLine (line : List Char) : Option (List Instr) :=
  let body := trim (line.takeWhile (· != ';'))
  let mnemonic := body.takeWhile (fun c => !isBlank c)
  let rest := trim (body.dropWhile (fun c => !isBlank c))
  if mnemonic.isEmpty then some []
  else if mnemonic = "PUSHN".toList then (blankOperands rest).map pushN
  else if mnemonic = "FRAME".toList then (blankOperands rest).map frameOps
  else if mnemonic = "READALL".toList then if rest.isEmpty then some readAll else none
  else
    match commaOperands rest with
    | some operands => (operationOf mnemonic operands).map (fun i => [i])
    | none => none

/-- The words of a program, one operation per line; unused operands are encoded as 0 (R76). -/
def assemble (lines : List (List Char)) : Option (List Hop) :=
  match lines.mapM assembleLine with
  | some ops => some (ops.flatten.map encode)
  | none => none

/-- The hexadecimal digit of a value below 16, in capitals. -/
def digitChar (v : Nat) : Char := if v < 10 then Char.ofNat (48 + v) else Char.ofNat (55 + v)

/-- The numeral `0x` and two digits of a byte. -/
def byteText (b : Byte) : List Char := ['0', 'x', digitChar (b.toNat / 16), digitChar (b.toNat % 16)]

/-- The text of an operation (R76): its mnemonic and its used operands. -/
def instrText (i : Instr) : List Char :=
  match i with
  | .push b => i.mnemonic.toList ++ [' '] ++ byteText b
  | .rdbyte b => i.mnemonic.toList ++ [' '] ++ byteText b
  | .buildcmd a f => i.mnemonic.toList ++ [' '] ++ byteText a ++ [',', ' '] ++ byteText f
  | .nop => i.mnemonic.toList
  | .clear => i.mnemonic.toList
  | .endFrame => i.mnemonic.toList
  | .rdstat => i.mnemonic.toList
  | .rdAddress => i.mnemonic.toList
  | .rdCommandType => i.mnemonic.toList
  | .rdControlCode => i.mnemonic.toList
  | .rdOperatingStatus => i.mnemonic.toList
  | .rdChargingStatus => i.mnemonic.toList
  | .rdControlStatus => i.mnemonic.toList
  | .rdBatteryType => i.mnemonic.toList
  | .rdBatteryIdMethod => i.mnemonic.toList
  | .rdNumberOfBatteries => i.mnemonic.toList
  | .rdLoadControlMode => i.mnemonic.toList
  | .rdMpptAddressConfirm => i.mnemonic.toList
  | .rdBaudRate => i.mnemonic.toList
  | .rdRatedVoltageLevel => i.mnemonic.toList
  | .rdUpperChargeVoltage => i.mnemonic.toList
  | .rdFloatVoltageLimit => i.mnemonic.toList
  | .rdLowVoltageDischargeLimit => i.mnemonic.toList
  | .rdHardwareMaxChargingCurrentLimit => i.mnemonic.toList
  | .rdDefinedChargeLimit => i.mnemonic.toList
  | .rdRunningChargingCurrentLimit => i.mnemonic.toList
  | .rdPvVoltageIn => i.mnemonic.toList
  | .rdBatteryVoltage => i.mnemonic.toList
  | .rdChargingCurrent => i.mnemonic.toList
  | .rdInternalTemperature => i.mnemonic.toList
  | .rdExternalTemperature => i.mnemonic.toList
  | .rdEnergyToday => i.mnemonic.toList
  | .rdTotalEnergyGenerated => i.mnemonic.toList

/-- The digits of the fraction of a scaled value (R140): 1, 2, 3 for a scale of 10, 100, 1000. -/
def fractionDigits (scale : Nat) : Nat := if scale = 10 then 1 else if scale = 100 then 2 else if scale = 1000 then 3 else 0

/-- The `k` lowest decimal digits of a value, left-padded with zeros (R140). -/
def paddedDigits (k v : Nat) : List Char := (List.range k).map (fun j => digitChar (v / 10 ^ (k - 1 - j) % 10))

/-- The decimal numeral of a scaled value: the integer part, and the fraction with exactly its `k` digits (R140). -/
def ScaledValue.numeral (v : ScaledValue) : List Char :=
  Nat.toDigits 10 v.ipart ++ ['.'] ++ paddedDigits (fractionDigits v.scale) v.fpart

end Sys2Proof.Machine
end

