-- ==== Sys2Proof/Machine/Units.lean ====
section
/-! DEFINITION. `N_UNITS` instances of SFU, one per controller polled (`00_scope.md` R7, `20_memory.md` R56,
`60_exceptions.md` R184): independent, without identifiers, sharing nothing. -/

namespace Sys2Proof.Machine

/-- The states of `n` instances. -/
abbrev Units (n : Nat) := Vector State n

/-- The instances after reset: each at its own reset. -/
def Units.reset (n : Nat) : Units n := Vector.replicate n State.reset

/-- Instance `k` takes one step. Which instance steps next is nobody's choice in the model: the operations of different
instances are unordered with respect to each other (R56; log entry 9). -/
def stepUnit {n : Nat} (k : Fin n) (us : Units n) : Host.Outcome (Units n) Fault Refusal :=
  match step us[k] with
  | .next t => .next (us.set k t)
  | .fault e => .fault e
  | .refused e => .refused e

end Sys2Proof.Machine
end

