-- ==== Sys2Proof/Safety.lean ====
section
/-! DEFINITION. What a sound state of an instance is (`10_state.md` R25), and when a host cannot tell two states apart (R26, R32). -/

namespace Sys2Proof.Safety

open Sys2Proof.Machine

/-- The sum of the bytes received so far that lie in the checksummed range, which R23 says `ACC` holds while receiving. -/
def receivedSum (s : State) : Byte := csum8 (s.fb.bytes 0 (min s.cnt.toNat Config.sumLen))

/-- The invariants of R25, and the canonical form of the frame buffer. -/
structure Sound (s : State) : Prop where
  /-- the frame buffer is in canonical form -/
  memory      : s.fb.wf = true
  /-- R25 (a) -/
  cntRange    : s.cnt.toNat ≤ Config.cntSat
  /-- R25 (b): a valid frame has 93 bytes -/
  validCnt    : s.status = .valid → s.cnt.toNat = Config.frameLen
  /-- R25 (b): `ACC` is the sum of bytes 0..91 -/
  validSum    : s.status = .valid → s.acc = csum8 (s.fb.bytes 0 Config.sumLen)
  /-- R25 (b): and equals byte 92 -/
  validMatch  : s.status = .valid → s.acc = s.fb.read Config.csumIdx
  /-- R25 (c) -/
  lengthCnt   : s.status = .errLength → s.cnt.toNat ≠ Config.frameLen
  /-- R25 (d) -/
  checksumCnt : s.status = .errChecksum → s.cnt.toNat = Config.frameLen
  /-- R25 (d) -/
  checksumBad : s.status = .errChecksum → s.acc ≠ s.fb.read Config.csumIdx
  /-- R25 (e), R23 -/
  recvSum     : s.status = .recv → s.acc = receivedSum s

/-- Two states that agree on everything but cells of `FB` that no operation since the last `CLEAR` or reset has written
(R26, R32): what a host has been told and can be told is the same. -/
structure SameToHost (s t : State) : Prop where
  cnt     : s.cnt = t.cnt
  acc     : s.acc = t.acc
  status  : s.status = t.status
  cmdPad  : s.cmdPad = t.cmdPad
  issued  : s.issued = t.issued
  resp    : s.resp = t.resp
  written : ∀ a, a < min s.cnt.toNat Config.frameLen → s.fb.read a = t.fb.read a

/-- The operation is performed, answers `r`, and changes nothing. -/
def Answers (i : Instr) (s : State) (r : Response) : Prop := exec i s = .next { s with resp := some r }

/-- The operation answers the unsigned value `raw` scaled by `scale`, with no loss (R140 to R142), and changes nothing. -/
def AnswersScaled (i : Instr) (s : State) (scale raw : Nat) : Prop :=
  ∃ d : RespData, Answers i s (.ok d) ∧ d.raw.toNat = raw ∧ d.ipart.toNat = raw / scale ∧ d.fpart.toNat = raw % scale ∧
    d.known = true ∧ d.sel = 0#3 ∧ d.cmd = Vector.replicate 8 0#8

end Sys2Proof.Safety
end

