-- ==== Sys2Proof/WellFormed.lean ====
section
/-! DEFINITION. Which operations have legal operands (`30_encoding.md` R66). An operation with an illegal operand still
has its meaning: `RDBYTE 93` answers INDEX_RANGE (R112), so no meaning asks for this check. -/

namespace Sys2Proof

/-- R66: "`RDBYTE` uses `A` as a frame address, legal when `A <= 92`". -/
def frameIndexLegal (i : Byte) : Bool := decide (i.toNat < Config.frameLen)

/-- The operands of an operation are legal: only `RDBYTE` restricts its operand; `PUSH` and `BUILDCMD` take any byte
(R66, R74) and the others take none. -/
def Instr.wellFormed : Instr → Bool
  | .rdbyte i => frameIndexLegal i
  | .nop | .clear | .push _ | .endFrame | .rdstat | .buildcmd _ _ => true
  | .rdAddress | .rdCommandType | .rdControlCode => true
  | .rdOperatingStatus | .rdChargingStatus | .rdControlStatus => true
  | .rdBatteryType | .rdBatteryIdMethod | .rdNumberOfBatteries | .rdLoadControlMode => true
  | .rdMpptAddressConfirm | .rdBaudRate => true
  | .rdRatedVoltageLevel | .rdUpperChargeVoltage | .rdFloatVoltageLimit | .rdLowVoltageDischargeLimit => true
  | .rdHardwareMaxChargingCurrentLimit | .rdDefinedChargeLimit | .rdRunningChargingCurrentLimit => true
  | .rdPvVoltageIn | .rdBatteryVoltage | .rdChargingCurrent => true
  | .rdInternalTemperature | .rdExternalTemperature | .rdEnergyToday | .rdTotalEnergyGenerated => true

end Sys2Proof
end

