-- ==== Sys2Proof/Certificates/Slice0/Obligations.lean ====
section
/-! DEFINITION. The statements. A state equation `exec i s = .next { s with … }` says the result AND the frame: every
field not named, all of `FB` among them, is as before. `Answers i s r` (Safety.lean) is that equation for an operation
that changes nothing but the answer. Where an operation has no field, its stated result leaves `known` open
(`∃ k, … known := k`): that it is 0 there is DEDUCED (log entry 6) and has a statement of its own. -/

open Sys2Proof Sys2Proof.Machine Sys2Proof.Safety

-- ---------------------------------------------------------------- control and checksum operations

/-- R98: `NOP` does nothing in every state. -/
def Obligations.NopOnlyAnswersOk : Prop := ∀ s : State, ∃ k, Answers .nop s (.ok { known := k })

/-- R94: `CLEAR` in every status zeroes `CNT` and `ACC`, sets `RECV`, keeps `FB`. -/
def Obligations.ClearStartsNewFrame : Prop :=
  ∀ s : State, ∃ k,
    exec .clear s = .next { s with cnt := 0#7, acc := 0#8, status := .recv, resp := some (.ok { known := k }) }

/-- R95: `PUSH b`, refused outside `RECV`; in `RECV` the byte is stored at `CNT` while `CNT <= 92`, added while
`CNT <= 91`, and `CNT` advances, saturating at 94. -/
def Obligations.PushStoresAddsAndCounts : Prop :=
  ∀ (b : Byte) (s : State),
    (s.status ≠ .recv → Answers (.push b) s .notReceiving) ∧
    (s.status = .recv → ∃ t, exec (.push b) s = .next t ∧
      (∀ a, t.fb.read a = if a = s.cnt.toNat ∧ s.cnt.toNat ≤ 92 then b else s.fb.read a) ∧
      t.acc.toNat = (if s.cnt.toNat ≤ 91 then (s.acc.toNat + b.toNat) % 256 else s.acc.toNat) ∧
      t.cnt.toNat = (if s.cnt.toNat ≤ 93 then s.cnt.toNat + 1 else s.cnt.toNat) ∧
      t.status = .recv ∧ (∃ k, t.resp = some (.ok { known := k })) ∧ t.cmdPad = s.cmdPad ∧ t.issued = s.issued)

/-- R96: `END`, refused outside `RECV`; in `RECV` it records the verdict, length before checksum, and changes nothing
but `STATUS`. -/
def Obligations.EndJudgesFrame : Prop :=
  ∀ s : State,
    (s.status ≠ .recv → Answers .endFrame s .notReceiving) ∧
    (s.status = .recv → s.cnt.toNat ≠ 93 →
      exec .endFrame s = .next { s with status := .errLength, resp := some .lengthError }) ∧
    (s.status = .recv → s.cnt.toNat = 93 → s.acc ≠ s.fb.read 92 →
      exec .endFrame s = .next { s with status := .errChecksum, resp := some .checksumError }) ∧
    (s.status = .recv → s.cnt.toNat = 93 → s.acc = s.fb.read 92 →
      ∃ k, exec .endFrame s = .next { s with status := .valid, resp := some (.ok { known := k }) })

/-- R97, with the numbers of R24 for `STATUS` (RECV 0, VALID 1, ERR_LENGTH 2, ERR_CHECKSUM 3): `RDSTAT` answers
`STATUS * 2^15 + CNT * 2^8 + ACC` in every status and changes nothing. -/
def Obligations.RdstatAnswersStatusWord : Prop :=
  ∀ s : State, ∃ (raw : BitVec 32) (k : Bool), Answers .rdstat s (.ok { raw := raw, known := k }) ∧
    raw.toNat = (match s.status with | .recv => 0 | .valid => 1 | .errLength => 2 | .errChecksum => 3) * 32768 +
      s.cnt.toNat * 256 + s.acc.toNat

/-- R27, R24: `STATUS` is 0 for RECV, 1 for VALID, 2 for ERR_LENGTH and 3 for ERR_CHECKSUM, and the fields of the status
word stand at bits 16:15, 14:8 and 7:0; the word is below 2^17. -/
def Obligations.StatusWordFieldsReadBack : Prop :=
  (Status.recv.code = 0#2 ∧ Status.valid.code = 1#2 ∧ Status.errLength.code = 2#2 ∧ Status.errChecksum.code = 3#2) ∧
  ∀ (st : Status) (cnt : BitVec 7) (acc : Byte),
    statusWord st cnt acc < 2 ^ 17 ∧
    bitRange (statusWord st cnt acc) 16 15 = st.code.toNat ∧
    bitRange (statusWord st cnt acc) 14 8 = cnt.toNat ∧
    bitRange (statusWord st cnt acc) 7 0 = acc.toNat

/-- R99: `BUILDCMD a, f` in every status answers `a, f, CMD_PAD` and the low byte of the sum of those seven bytes, for
every value of `CMD_PAD`, and changes nothing. -/
def Obligations.BuildcmdAnswersCommand : Prop :=
  ∀ (a f : Byte) (s : State), ∃ (image : Vector Byte 8) (k : Bool),
    Answers (.buildcmd a f) s (.ok { cmd := image, known := k }) ∧
    image[0] = a ∧ image[1] = f ∧ image[2] = s.cmdPad[0] ∧ image[3] = s.cmdPad[1] ∧ image[4] = s.cmdPad[2] ∧ image[5] = s.cmdPad[3] ∧
    image[6] = s.cmdPad[4] ∧ image[7] = csum8 (image.toList.take 7) ∧
    image[7].toNat = (a.toNat + f.toNat + (s.cmdPad.toList.map (·.toNat)).sum) % 256

/-- DEDUCED (log entry 6): `known` is 0 in the answer of every operation that is no read, for R12 says that fields not
mentioned are 0; the reads are the only operations whose pseudocode mentions it. -/
def Obligations.KnownIsZeroWithoutField : Prop :=
  ∀ (i : Instr) (s t : State) (d : RespData), isRead i = false → exec i s = .next t → t.resp = some (.ok d) →
    d.known = false

-- ---------------------------------------------------------------- unscaled reads

/-- R112, R176: `RDBYTE i` outside `VALID` answers NOT_VALID whatever `i` is; in `VALID` the byte at `i` for
`i <= 92` and INDEX_RANGE for `i` 93..255. -/
def Obligations.RdbyteAnswersByte : Prop :=
  ∀ (i : Byte) (s : State),
    (s.status ≠ .valid → Answers (.rdbyte i) s .notValid) ∧
    (s.status = .valid → i.toNat ≤ 92 →
      Answers (.rdbyte i) s (.ok { raw := (s.fb.read i.toNat).setWidth 32, known := true })) ∧
    (s.status = .valid → 92 < i.toNat → Answers (.rdbyte i) s .indexRange)

/-- R113 to R115 under the spec's reading D12 of the offsets (log entry 11): the identity bytes are bytes 0, 1, 2. -/
def Obligations.IdentityReadsAnswerTheirBytes : Prop :=
  ∀ s : State, s.status = .valid →
    Answers .rdAddress s (.ok { raw := (s.fb.read 0).setWidth 32, known := true }) ∧
    Answers .rdCommandType s (.ok { raw := (s.fb.read 1).setWidth 32, known := true }) ∧
    Answers .rdControlCode s (.ok { raw := (s.fb.read 2).setWidth 32, known := true })

/-- R121, R123: `RD.numberOfBatteries` and `RD.mpptAddressConfirm` answer bytes 10 and 12 raw. -/
def Obligations.RawConfigurationReadsAnswerTheirBytes : Prop :=
  ∀ s : State, s.status = .valid →
    Answers .rdNumberOfBatteries s (.ok { raw := (s.fb.read 10).setWidth 32, known := true }) ∧
    Answers .rdMpptAddressConfirm s (.ok { raw := (s.fb.read 12).setWidth 32, known := true })

/-- R116, R117 under the spec's reading D11 of the bit order (log entry 10): the status bytes are answered raw and flag
`i` is bit `i` of the byte. -/
def Obligations.StatusFlagReadsAnswerTheirBits : Prop :=
  ∀ s : State, s.status = .valid →
    (∃ raw : BitVec 32, Answers .rdOperatingStatus s (.ok { raw := raw, known := true }) ∧
      raw.toNat = (s.fb.read 3).toNat ∧ ∀ i : Fin 8, (statusFlags raw.toNat)[i] = (s.fb.read 3).getLsbD i) ∧
    (∃ raw : BitVec 32, Answers .rdChargingStatus s (.ok { raw := raw, known := true }) ∧
      raw.toNat = (s.fb.read 4).toNat ∧ ∀ i : Fin 8, (statusFlags raw.toNat)[i] = (s.fb.read 4).getLsbD i)

/-- R118 under the spec's readings D11 and D14 (log entries 10 and 12): `controlStatus` is answered raw, and its five
named flags are bits 0, 1, 2, 4 and 5. -/
def Obligations.ControlStatusReadAnswersNamedFlags : Prop :=
  ∀ s : State, s.status = .valid →
    ∃ raw : BitVec 32, Answers .rdControlStatus s (.ok { raw := raw, known := true }) ∧
      raw.toNat = (s.fb.read 5).toNat ∧
      (controlFlags raw.toNat).relay = (s.fb.read 5).getLsbD 0 ∧
      (controlFlags raw.toNat).load = (s.fb.read 5).getLsbD 1 ∧
      (controlFlags raw.toNat).fan = (s.fb.read 5).getLsbD 2 ∧
      (controlFlags raw.toNat).overchargeProtection = (s.fb.read 5).getLsbD 4 ∧
      (controlFlags raw.toNat).overvoltage = (s.fb.read 5).getLsbD 5

/-- R119, R122 under the spec's zero-based reading D15 (log entry 13): a code in the list is answered with `known = 1`
and itself as `sel`, any other with `known = 0` and `sel = 0`. -/
def Obligations.ZeroBasedEnumerationReads : Prop :=
  ∀ s : State, s.status = .valid →
    Answers .rdBatteryType s (.ok (if (s.fb.read 8).toNat ≤ 3
      then { raw := (s.fb.read 8).setWidth 32, known := true, sel := (s.fb.read 8).setWidth 3 }
      else { raw := (s.fb.read 8).setWidth 32, known := false, sel := 0#3 })) ∧
    Answers .rdLoadControlMode s (.ok (if (s.fb.read 11).toNat ≤ 4
      then { raw := (s.fb.read 11).setWidth 32, known := true, sel := (s.fb.read 11).setWidth 3 }
      else { raw := (s.fb.read 11).setWidth 32, known := false, sel := 0#3 }))

/-- R120: `RD.batteryIdMethod` answers `sel = 0` (auto) for code 0 and `sel = 1` (manual) for every other code, always known. -/
def Obligations.BatteryIdMethodRead : Prop :=
  ∀ s : State, s.status = .valid →
    Answers .rdBatteryIdMethod s (.ok
      { raw := (s.fb.read 9).setWidth 32, known := true, sel := if s.fb.read 9 = 0#8 then 0#3 else 1#3 })

/-- R124: `RD.baudRate` answers 1200, 2400, 4800, 9600 for the codes 1, 2, 3, 4 with `sel` the code minus 1, and
`known = 0` for every other code, code 0 among them. -/
def Obligations.BaudRateRead : Prop :=
  ∀ s : State, s.status = .valid →
    Answers .rdBaudRate s (.ok (
      if s.fb.read 13 = 1#8 then { raw := 1#32, known := true, sel := 0#3, ipart := 1200#23 }
      else if s.fb.read 13 = 2#8 then { raw := 2#32, known := true, sel := 1#3, ipart := 2400#23 }
      else if s.fb.read 13 = 3#8 then { raw := 3#32, known := true, sel := 2#3, ipart := 4800#23 }
      else if s.fb.read 13 = 4#8 then { raw := 4#32, known := true, sel := 3#3, ipart := 9600#23 }
      else { raw := (s.fb.read 13).setWidth 32, known := false, sel := 0#3, ipart := 0#23 }))

-- ---------------------------------------------------------------- scaled reads

/-- R144 to R150, R152, R153: the nine fields with scale 100. -/
def Obligations.HundredthsReads : Prop :=
  ∀ s : State, s.status = .valid →
    AnswersScaled .rdRatedVoltageLevel s 100 (256 * (s.fb.read 16).toNat + (s.fb.read 17).toNat) ∧
    AnswersScaled .rdUpperChargeVoltage s 100 (256 * (s.fb.read 18).toNat + (s.fb.read 19).toNat) ∧
    AnswersScaled .rdFloatVoltageLimit s 100 (256 * (s.fb.read 20).toNat + (s.fb.read 21).toNat) ∧
    AnswersScaled .rdLowVoltageDischargeLimit s 100 (256 * (s.fb.read 22).toNat + (s.fb.read 23).toNat) ∧
    AnswersScaled .rdHardwareMaxChargingCurrentLimit s 100 (256 * (s.fb.read 24).toNat + (s.fb.read 25).toNat) ∧
    AnswersScaled .rdDefinedChargeLimit s 100 (256 * (s.fb.read 26).toNat + (s.fb.read 27).toNat) ∧
    AnswersScaled .rdRunningChargingCurrentLimit s 100 (256 * (s.fb.read 28).toNat + (s.fb.read 29).toNat) ∧
    AnswersScaled .rdBatteryVoltage s 100 (256 * (s.fb.read 32).toNat + (s.fb.read 33).toNat) ∧
    AnswersScaled .rdChargingCurrent s 100 (256 * (s.fb.read 34).toNat + (s.fb.read 35).toNat)

/-- R151, R154, R155: the three fields with scale 10, the temperatures unsigned. -/
def Obligations.TenthsReads : Prop :=
  ∀ s : State, s.status = .valid →
    AnswersScaled .rdPvVoltageIn s 10 (256 * (s.fb.read 30).toNat + (s.fb.read 31).toNat) ∧
    AnswersScaled .rdInternalTemperature s 10 (256 * (s.fb.read 36).toNat + (s.fb.read 37).toNat) ∧
    AnswersScaled .rdExternalTemperature s 10 (256 * (s.fb.read 40).toNat + (s.fb.read 41).toNat)

/-- R156, R157: the two 4-byte energies with scale 1000. -/
def Obligations.ThousandthsReads : Prop :=
  ∀ s : State, s.status = .valid →
    AnswersScaled .rdEnergyToday s 1000 (16777216 * (s.fb.read 44).toNat + 65536 * (s.fb.read 45).toNat +
      256 * (s.fb.read 46).toNat + (s.fb.read 47).toNat) ∧
    AnswersScaled .rdTotalEnergyGenerated s 1000 (16777216 * (s.fb.read 48).toNat + 65536 * (s.fb.read 49).toNat +
      256 * (s.fb.read 50).toNat + (s.fb.read 51).toNat)

/-- R142 (the spec marks it derived): for every scaled field, nothing is lost. `ipart * S + fpart` recovers the raw value
of `n` bytes and `fpart` is below `S`. -/
def Obligations.ScaledReadsLoseNothing : Prop :=
  ∀ (i : Instr) (f : Field) (scale : Nat) (u : PhysUnit) (s : State),
    fieldOf i = some f → f.kind = .scaled scale u → s.status = .valid →
    ∃ d : RespData, Answers i s (.ok d) ∧ d.ipart.toNat * scale + d.fpart.toNat = d.raw.toNat ∧
      d.fpart.toNat < scale ∧ d.raw.toNat < 256 ^ f.n ∧ d.raw.toNat = bigEndian (s.fb.bytes f.lo f.n)

/-- R140: `SCALE` keeps `raw`, and its triple denotes the rational `raw / S` of its own arguments, which is
`ipart + fpart / S` with `fpart` below `S`. -/
def Obligations.ScaledTripleDenotesQuotient : Prop :=
  ∀ (scale raw : Nat), 0 < scale →
    (scaledValue scale raw).raw = raw ∧ (scaledValue scale raw).fpart < scale ∧
    (scaledValue scale raw).val = (raw : Rat) / (scale : Rat) ∧
    (scaledValue scale raw).val = ((scaledValue scale raw).ipart : Rat) + ((scaledValue scale raw).fpart : Rat) / (scale : Rat)

-- ---------------------------------------------------------------- the gate, the frame conditions, the transitions

/-- R125, R173, R26: outside `VALID` every read answers NOT_VALID and changes nothing. -/
def Obligations.GateRefusesEveryRead : Prop :=
  ∀ (i : Instr) (s : State), isRead i = true → s.status ≠ .valid → Answers i s .notValid

/-- R21, R22, R23, R24 and R7: which operations write which register. `FB` is written by `PUSH` only; `CNT` and `ACC` by
`PUSH` and `CLEAR`; `STATUS` by `END` and `CLEAR`; `CMD_PAD` and the words still issued by none. -/
def Obligations.EachRegisterHasItsWriters : Prop :=
  ∀ (i : Instr) (s t : State), exec i s = .next t →
    ((∀ b, i ≠ .push b) → t.fb = s.fb ∧ ∀ a, t.fb.read a = s.fb.read a) ∧
    ((∀ b, i ≠ .push b) → i ≠ .clear → t.cnt = s.cnt ∧ t.acc = s.acc) ∧
    (i ≠ .endFrame → i ≠ .clear → t.status = s.status) ∧
    t.cmdPad = s.cmdPad ∧ t.issued = s.issued ∧ t.resp.isSome = true

/-- R51: `RDSTAT`, `RDBYTE`, every `RD.<field>` and `BUILDCMD` (and `NOP`, R98) change no state, and repeated in the same
state they answer the same. -/
def Obligations.ReadsAreIdempotent : Prop :=
  ∀ (i : Instr) (s : State), i ≠ .clear → i ≠ .endFrame → (∀ b, i ≠ .push b) →
    ∃ r, Answers i s r ∧ Answers i { s with resp := some r } r

/-- R28: a response is held nowhere. The model's own fields `resp` and `issued` (log entries 3 and 4) take no part in
what an operation does. -/
def Obligations.ModelFieldsTakeNoPart : Prop :=
  ∀ (i : Instr) (s : State) (r : Option Response) (ws : List Hop),
    ∃ t, exec i s = .next t ∧ exec i { s with resp := r, issued := ws } = .next { t with issued := ws }

/-- R30, R193, R103 (the spec marks them derived): once a verdict stands, no sequence of operations without `CLEAR`
changes anything but the answer. -/
def Obligations.VerdictStandsUntilClear : Prop :=
  ∀ (ops : List Instr) (s : State), s.status ≠ .recv → Instr.clear ∉ ops →
    ∃ r, execSeq ops s = .next { s with resp := r }

/-- R103 (the spec marks it derived): the transition table of `STATUS`. An operation that changes it is `CLEAR`, or `END`
in `RECV` with the condition of its line. -/
def Obligations.StatusTransitionTable : Prop :=
  ∀ (i : Instr) (s t : State), exec i s = .next t → t.status ≠ s.status →
    (i = .clear ∧ t.status = .recv) ∨
    (i = .endFrame ∧ s.status = .recv ∧
      ((t.status = .errLength ∧ s.cnt.toNat ≠ 93) ∨
       (t.status = .errChecksum ∧ s.cnt.toNat = 93 ∧ s.acc ≠ s.fb.read 92) ∨
       (t.status = .valid ∧ s.cnt.toNat = 93 ∧ s.acc = s.fb.read 92)))

/-- R176 against R66: in `VALID` exactly the operations whose operand is not legal answer INDEX_RANGE. -/
def Obligations.IndexRangeIffIllegalIndex : Prop :=
  ∀ (i : Instr) (s : State), s.status = .valid → (Answers i s .indexRange ↔ i.wellFormed = false)

/-- R111, R158: what a read answers in `VALID` depends on the bytes of its own range alone; the ranges of the identity
reads are those of the spec's reading D12 (log entry 11). -/
def Obligations.ReadsDependOnTheirBytesOnly : Prop :=
  ∀ (i : Instr) (s t : State), isRead i = true → s.status = .valid → t.status = .valid →
    (∀ a ∈ footprint i, s.fb.read a = t.fb.read a) → ∃ r, Answers i s r ∧ Answers i t r

/-- R43, R158: every address of the frame space lies in exactly one region of the map, and no region leaves it. -/
def Obligations.FrameMapCoversEachByteOnce : Prop :=
  (∀ a, a < 93 → (frameMap.filter (fun r => r.covers a)).length = 1) ∧ ∀ r ∈ frameMap, r.lo + r.n ≤ 93

-- ---------------------------------------------------------------- decoding and the step

/-- R64, R65, R66, R73: decoding the word of an operation gives the operation, for every operand; and a word decodes to
an operation exactly when it agrees with the operation's word on the bits the operation uses, whatever the ignored
operands hold. -/
def Obligations.DecodeAndEncodeAgree : Prop :=
  (∀ i : Instr, decode (encode i) = .ok i) ∧
  ∀ (w : Hop) (i : Instr), decode w = .ok i ↔ w &&& i.usedBits = encode i

/-- R72: the words the decoder rejects are exactly those with a reserved operation code. -/
def Obligations.DecoderRejectsExactlyReserved : Prop :=
  ∀ w : Hop, (∃ e, decode w = .error e) ↔ reservedOp (opOf w) = true

/-- Words written out in the spec (`95_test_vectors.md` sections 3, 5, 7, 8) and the operations they stand for (R65). -/
def Obligations.SpecWordsDecode : Prop :=
  decode 0x00AA55#24 = .ok .nop ∧ decode 0x010000#24 = .ok .clear ∧ decode 0x026A00#24 = .ok (.push 0x6A#8) ∧
  decode 0x030000#24 = .ok .endFrame ∧ decode 0x04FFFF#24 = .ok .rdstat ∧
  decode 0x0501B1#24 = .ok (.buildcmd 0x01#8 0xB1#8) ∧ decode 0x065C00#24 = .ok (.rdbyte 92#8) ∧
  decode 0x4B0000#24 = .ok .rdBaudRate ∧ decode 0x5812CD#24 = .ok .rdBatteryVoltage ∧
  decode 0x5D0000#24 = .ok .rdTotalEnergyGenerated ∧ decode 0x4C0000#24 = .error (.reservedField 0x4C#8)

/-- R50, R52, over the model's own list of issued words (DESIGN CHOICE, log entry 4: a step performs the oldest word and
removes it): when that word decodes to an operation, the step is the operation's meaning on the state without the word. -/
def Obligations.StepRunsDecodedOperation : Prop :=
  ∀ (s : State) (w : Hop) (rest : List Hop) (i : Instr), s.issued = w :: rest → decode w = .ok i →
    step s = exec i { s with issued := rest }

/-- R72, R175: a word with a reserved operation code is answered ILLEGAL_OP in every status, and no state of the spec's
changes. That the step takes the oldest issued word and removes it, an illegal one too, is the model's choice (DESIGN
CHOICE, log entry 4). -/
def Obligations.ReservedWordAnswersIllegalOp : Prop :=
  ∀ (s : State) (w : Hop) (rest : List Hop), s.issued = w :: rest → reservedOp (opOf w) = true →
    step s = .next { s with issued := rest, resp := some .illegalOp }

/-- The model's choice (log entry 5): a step with nothing issued changes nothing. -/
def Obligations.StepWithNothingIssuedStutters : Prop := ∀ s : State, s.issued = [] → step s = .next s

/-- R199: no step waits, faults or is refused by the model, and an issued word is answered. That the performed word is
the oldest and is removed is the model's choice (DESIGN CHOICE, log entry 4), and so is that a step with nothing issued
completes (DESIGN CHOICE, log entry 5): such a step answers nothing. -/
def Obligations.EveryStepCompletesAndIssuedWordIsAnswered : Prop :=
  ∀ s : State, ∃ t, step s = .next t ∧ (s.issued ≠ [] → t.resp.isSome = true ∧ t.issued = s.issued.tail)

/-- R50, R52, over the model's own list of issued words (DESIGN CHOICE, log entry 4: one word a step, the oldest first,
each removed, the list empty at the end): performing the words of a sequence of operations does what the operations do
in that order. -/
def Obligations.StepsPerformIssuedSequence : Prop :=
  ∀ (ops : List Instr) (s : State),
    Host.Core.run Sys2Proof.core ops.length { s with issued := ops.map encode } = execSeq ops { s with issued := [] }

/-- R179: the order in which the conditions are reported, on the operation word; the word a step performs is the oldest
issued one (log entry 4). -/
def Obligations.FirstConditionIsReported : Prop :=
  ∀ (s : State) (w : Hop) (rest : List Hop), s.issued = w :: rest →
    (reservedOp (opOf w) = true → ∃ t, step s = .next t ∧ t.resp = some .illegalOp) ∧
    (opOf w = 0x02#8 ∨ opOf w = 0x03#8 → s.status ≠ .recv → ∃ t, step s = .next t ∧ t.resp = some .notReceiving) ∧
    (opOf w = 0x06#8 ∨ (0x40 ≤ (opOf w).toNat ∧ reservedOp (opOf w) = false) → s.status ≠ .valid →
      ∃ t, step s = .next t ∧ t.resp = some .notValid) ∧
    (opOf w = 0x06#8 → s.status = .valid → 92 < (operandA w).toNat → ∃ t, step s = .next t ∧ t.resp = some .indexRange) ∧
    (opOf w = 0x03#8 → s.status = .recv → s.cnt.toNat ≠ 93 → ∃ t, step s = .next t ∧ t.resp = some .lengthError) ∧
    (opOf w = 0x03#8 → s.status = .recv → s.cnt.toNat = 93 → s.acc ≠ s.fb.read 92 →
      ∃ t, step s = .next t ∧ t.resp = some .checksumError)

-- ---------------------------------------------------------------- reset and invariants

/-- R31, R190: `STATUS`, `CNT` and `ACC` after reset, whatever `FB` holds and whatever `CMD_PAD` is. -/
def Obligations.ResetValues : Prop :=
  (∀ (fb : Memory) (pad : Vector Byte 5),
    (State.resetWith fb pad).status = .recv ∧ (State.resetWith fb pad).cnt = 0#7 ∧ (State.resetWith fb pad).acc = 0#8) ∧
  State.reset.status = .recv ∧ State.reset.cnt = 0#7 ∧ State.reset.acc = 0#8

/-- R25 (the spec marks it derived): the invariants hold after reset, whatever `FB` holds in canonical form. -/
def Obligations.ResetIsSound : Prop :=
  Sound State.reset ∧ ∀ (fb : Memory) (pad : Vector Byte 5), fb.wf = true → Sound (State.resetWith fb pad)

/-- R25, R23 (the spec marks R25 derived): every step keeps the invariants, and the frame buffer's canonical form. -/
def Obligations.StepKeepsSound : Prop := ∀ s t : State, Sound s → step s = .next t → Sound t

/-- R26, R32 (the spec marks the consequence derived): from two sound states that differ only in cells nothing has written
since the last `CLEAR`, one step gives the same answer and again two such states. -/
def Obligations.StepKeepsSameToHost : Prop :=
  ∀ s t : State, Sound s → Sound t → SameToHost s t →
    ∃ s' t', step s = .next s' ∧ step t = .next t' ∧ SameToHost s' t'

/-- R94, R32 (the spec marks R32 derived): `CLEAR` leaves nothing of the past that a host could be told. -/
def Obligations.ClearHidesThePast : Prop :=
  ∀ s t : State, s.cmdPad = t.cmdPad → s.issued = t.issued →
    ∃ s' t', exec .clear s = .next s' ∧ exec .clear t = .next t' ∧ SameToHost s' t'

/-- R26, R31: the contents of `FB` after reset are unobservable. Whatever words the host issues (in the model's own list,
log entry 4), after any number of steps the answer and the status registers are the same from any two contents. -/
def Obligations.ResetContentsUnobservable : Prop :=
  ∀ (fb fb' : Memory) (pad : Vector Byte 5) (ws : List Hop) (n : Nat), fb.wf = true → fb'.wf = true →
    ∃ s t : State,
      Host.Core.run Sys2Proof.core n { State.resetWith fb pad with issued := ws } = .next s ∧
      Host.Core.run Sys2Proof.core n { State.resetWith fb' pad with issued := ws } = .next t ∧
      s.resp = t.resp ∧ s.status = t.status ∧ s.cnt = t.cnt ∧ s.acc = t.acc

-- ---------------------------------------------------------------- the source's functions

/-- R92, R93: `VALIDATE` accepts a 93-byte sequence iff its checksum matches, and answers LengthError for every other length. -/
def Obligations.ValidateByLengthAndChecksum : Prop :=
  ∀ f : List Byte,
    (f.length = 93 → (validate f = .valid f ↔ csum8 (f.take 92) = f.getD 92 0#8)) ∧
    (f.length ≠ 93 → validate f = .lengthError)

/-- R100 (the spec marks it derived): for every byte sequence and start state the response of `FRAME s` is the verdict of
`VALIDATE(s)`, and a valid frame stands in `FB`. -/
def Obligations.FrameMatchesValidate : Prop :=
  ∀ (bs : List Byte) (s : State), ∃ t, execSeq (frameOps bs) s = .next t ∧ t.cmdPad = s.cmdPad ∧ t.issued = s.issued ∧
    match validate bs with
    | .lengthError => t.status = .errLength ∧ t.resp = some .lengthError
    | .checksumError => t.status = .errChecksum ∧ t.resp = some .checksumError
    | .valid _ => t.status = .valid ∧ (∃ d, t.resp = some (.ok d)) ∧ ∀ i, i < 93 → t.fb.read i = bs.getD i 0#8

/-- R100 (the spec marks it derived), second part: operations other than `CLEAR` and `END` between the `PUSH`es do not change
the verdict or the frame. -/
def Obligations.InterleavedOperationsKeepVerdict : Prop :=
  ∀ (ops : List Instr) (s : State), Instr.clear ∉ ops → Instr.endFrame ∉ ops →
    ∃ t, execSeq (.clear :: (ops ++ [.endFrame])) s = .next t ∧ execSeq (frameOps (pushedBytes ops)) s = .next t

/-- R110, R125, R77: in `VALID` the 26 responses of `READALL` give the components of `decode(FB)`, assembled as log entry
16 (DEDUCED) says a host does. Premises that U5 asks to be named: the spec's readings D11 (bit order), D12 (identity
bytes), D14 (pairing of the control flags) and D15 (zero-based enumerations), log entries 10 to 13. -/
def Obligations.ReadAllYieldsReading : Prop :=
  ∀ s : State, s.status = .valid → readingOfResponses (responses readAll s) = some (decodeReading s.fb.read)

/-- R91, R110, R125, R26 end to end: after `FRAME bs` from any state, `READALL` gives the source's
`decode(validate(bs))` when `bs` is valid, and no Reading at all otherwise. A Reading is what a host assembles from the
responses (DEDUCED, log entry 16), and its components rest on the spec's readings D11, D12, D14 and D15 (log entries 10
to 13). -/
def Obligations.FrameThenReadAllIsDecodeOfValidate : Prop :=
  ∀ (bs : List Byte) (s : State), ∃ t, execSeq (frameOps bs) s = .next t ∧
    readingOfResponses (responses readAll t) =
      match validate bs with
      | .valid f => some (decodeReading (fun i => f.getD i 0#8))
      | .lengthError => none
      | .checksumError => none

/-- R126 (the spec marks it derived): the all-zero frame is valid and decodes to zeros, known index-0 entries, and an unknown
baud rate. The Reading is assembled as log entry 16 (DEDUCED) says, and its index-0 entries rest on the spec's zero-based
reading D15 (log entry 13). -/
def Obligations.AllZeroFrameDecodes : Prop :=
  ∀ s : State, ∃ t, execSeq (frameOps (List.replicate 93 0#8)) s = .next t ∧ t.status = .valid ∧
    ∃ r, readingOfResponses (responses readAll t) = some r ∧
      r.address = 0#8 ∧ r.commandType = 0#8 ∧ r.controlCode = 0#8 ∧
      r.operatingStatus = Vector.replicate 8 false ∧ r.chargingStatus = Vector.replicate 8 false ∧
      r.controlStatus = 0#8 ∧ r.controlFlags = ⟨false, false, false, false, false⟩ ∧
      r.batteryType = .leadAcidMaintenanceFree ∧ r.batteryIdMethod = .auto ∧ r.numberOfBatteries = 0#8 ∧
      r.loadControlMode = .off ∧ r.mpptAddressConfirm = 0#8 ∧ r.baudRate = .unknown ∧
      r.ratedVoltageLevel = ⟨0, 0, 0, 100⟩ ∧ r.upperChargeVoltage = ⟨0, 0, 0, 100⟩ ∧
      r.floatVoltageLimit = ⟨0, 0, 0, 100⟩ ∧ r.lowVoltageDischargeLimit = ⟨0, 0, 0, 100⟩ ∧
      r.hardwareMaxChargingCurrentLimit = ⟨0, 0, 0, 100⟩ ∧ r.definedChargeLimit = ⟨0, 0, 0, 100⟩ ∧
      r.runningChargingCurrentLimit = ⟨0, 0, 0, 100⟩ ∧ r.pvVoltageIn = ⟨0, 0, 0, 10⟩ ∧
      r.batteryVoltage = ⟨0, 0, 0, 100⟩ ∧ r.chargingCurrent = ⟨0, 0, 0, 100⟩ ∧
      r.internalTemperature = ⟨0, 0, 0, 10⟩ ∧ r.externalTemperature = ⟨0, 0, 0, 10⟩ ∧
      r.energyToday = ⟨0, 0, 0, 1000⟩ ∧ r.totalEnergyGenerated = ⟨0, 0, 0, 1000⟩

/-- R101 (the spec marks it derived): the checksum ignores order, adds over concatenation and ignores zero bytes. -/
def Obligations.ChecksumLaws : Prop :=
  (∀ s t : List Byte, s.Perm t → csum8 s = csum8 t) ∧
  (∀ s t : List Byte, (csum8 (s ++ t)).toNat = ((csum8 s).toNat + (csum8 t).toNat) % 256) ∧
  (∀ s t : List Byte, csum8 (s ++ 0#8 :: t) = csum8 (s ++ t))

/-- R102 (the spec marks it derived): one changed byte of a valid frame, the checksum byte included, is always caught. -/
def Obligations.SingleByteChangeIsCaught : Prop :=
  ∀ (f : List Byte) (i : Nat) (b : Byte), validate f = .valid f → i < 93 → b ≠ f.getD i 0#8 →
    validate (f.set i b) = .checksumError

/-- R102 (the spec marks it derived): against a valid frame `f`, a received 93-byte `g` is missed exactly when
`CSUM8(g[0..92)) - g[92]` is that of `f`, which is when the differences of bytes 0..91 sum, modulo 256, to the
difference of byte 92. So a `g` with the bytes of 0..91 reordered is missed, one byte of 0..91 up and another down by
the same amount, and one byte of 0..91 and byte 92 up by the same amount. -/
def Obligations.CancellingChangesAreMissed : Prop :=
  (∀ f g : List Byte, validate f = .valid f → g.length = 93 →
    (validate g = .valid g ↔ csum8 (g.take 92) - g.getD 92 0#8 = csum8 (f.take 92) - f.getD 92 0#8)) ∧
  (∀ f g : List Byte, validate f = .valid f → g.length = 93 →
    (validate g = .valid g ↔
      ((List.range 92).map (fun i => ((g.getD i 0#8).toNat : Int) - ((f.getD i 0#8).toNat : Int))).sum % 256 =
        (((g.getD 92 0#8).toNat : Int) - ((f.getD 92 0#8).toNat : Int)) % 256)) ∧
  (∀ f g : List Byte, validate f = .valid f → g.length = 93 → (g.take 92).Perm (f.take 92) →
    g.getD 92 0#8 = f.getD 92 0#8 → validate g = .valid g) ∧
  (∀ (f : List Byte) (i j : Nat) (d : Byte), validate f = .valid f → i < 92 → j < 92 → i ≠ j →
    validate ((f.set i (f.getD i 0#8 + d)).set j (f.getD j 0#8 - d)) =
      .valid ((f.set i (f.getD i 0#8 + d)).set j (f.getD j 0#8 - d))) ∧
  (∀ (f : List Byte) (i : Nat) (d : Byte), validate f = .valid f → i < 92 →
    validate ((f.set i (f.getD i 0#8 + d)).set 92 (f.getD 92 0#8 + d)) =
      .valid ((f.set i (f.getD i 0#8 + d)).set 92 (f.getD 92 0#8 + d)))

-- ---------------------------------------------------------------- instances and text

/-- R56, R184: a step of one instance is a step of that instance alone, and steps of different instances commute. -/
def Obligations.InstancesShareNothing : Prop :=
  ∀ (n : Nat) (j k : Fin n) (us : Units n), j ≠ k →
    ∃ vs ws zs, stepUnit k us = .next vs ∧ step us[k] = .next vs[k] ∧ (∀ l : Fin n, l ≠ k → vs[l] = us[l]) ∧
      stepUnit j us = .next ws ∧ stepUnit j vs = .next zs ∧ stepUnit k ws = .next zs

/-- R76: the text of an operation assembles to the operation, for every operand, and a program of one operation a line to
their words. -/
def Obligations.AssemblerReadsOperationText : Prop :=
  (∀ i : Instr, assembleLine (instrText i) = some [i]) ∧
  ∀ ops : List Instr, assemble (ops.map instrText) = some (ops.map encode)

-- ---------------------------------------------------------------- the response codes

/-- R170: the numbers of the response codes; 7..15 are the code of no response. -/
def Obligations.ResponseCodeNumbers : Prop :=
  (∀ d : RespData, (Response.ok d).rc = 0#4) ∧
  Response.lengthError.rc = 1#4 ∧ Response.checksumError.rc = 2#4 ∧ Response.notValid.rc = 3#4 ∧
  Response.notReceiving.rc = 4#4 ∧ Response.illegalOp.rc = 5#4 ∧ Response.indexRange.rc = 6#4 ∧
  ∀ r : Response, r.rc.toNat ≤ 6

/-- R170, the column "raised by": LENGTH_ERROR (1) and CHECKSUM_ERROR (2) are answered by `END` only, NOT_VALID (3) by the
reads only, NOT_RECEIVING (4) by `PUSH` and `END` only, INDEX_RANGE (6) by `RDBYTE` only, and ILLEGAL_OP (5) by no
operation: a word with a reserved code is answered it. -/
def Obligations.ResponseCodesAreRaisedBy : Prop :=
  ∀ (i : Instr) (s t : State) (r : Response), exec i s = .next t → t.resp = some r →
    (r.rc = 1#4 ∨ r.rc = 2#4 → i = .endFrame) ∧
    (r.rc = 3#4 → isRead i = true) ∧
    (r.rc = 4#4 → i = .endFrame ∨ ∃ b, i = .push b) ∧
    r.rc ≠ 5#4 ∧
    (r.rc = 6#4 → ∃ j, i = .rdbyte j)
end

