-- ==== Sys2Proof/Laws/Checksum.lean ====
section
/-! SUPPORT. How the checksum grows byte by byte. -/

namespace Sys2Proof.Machine

@[simp] theorem csum8_nil : csum8 [] = 0#8 := rfl

/-- One more byte at the end: what the accumulator does with each byte (R90, R95). -/
theorem csum8_append_singleton (s : List Byte) (b : Byte) : csum8 (s ++ [b]) = csum8 s + b := by
  apply BitVec.eq_of_toNat_eq
  simp [csum8, BitVec.toNat_add]

/-- The exact sum, narrowed (R90). -/
theorem csum8_toNat (s : List Byte) : (csum8 s).toNat = (s.map (·.toNat)).sum % 256 := by
  simp [csum8]

end Sys2Proof.Machine
end

