-- ==== Sys2Proof/Laws/Flags.lean ====
section
/-! SUPPORT. What the computations of `CNT`, `ACC` and the verdict give. -/

namespace Sys2Proof.Machine

/-- `CNT` after a `PUSH`, as a number. -/
theorem cntAfterPush_toNat (cnt : BitVec 7) :
    (cntAfterPush cnt).toNat = if cnt.toNat ≤ 93 then cnt.toNat + 1 else cnt.toNat := by
  by_cases h : cnt.toNat ≤ 93
  · simp only [cntAfterPush, h, if_true, BitVec.toNat_add]; simp; omega
  · simp [cntAfterPush, h]

/-- `ACC` after a `PUSH`, as a number. -/
theorem accAfterPush_toNat (cnt : BitVec 7) (acc b : Byte) :
    (accAfterPush cnt acc b).toNat = if cnt.toNat ≤ 91 then (acc.toNat + b.toNat) % 256 else acc.toNat := by
  by_cases h : cnt.toNat ≤ 91 <;> simp [accAfterPush, h, BitVec.toNat_add]

/-- The three verdicts, once. -/
theorem judge_cases (cnt : BitVec 7) (acc : Byte) (received : Nat) :
    (cnt.toNat ≠ Config.frameLen ∧ judge cnt acc received = .lengthError) ∨
    (cnt.toNat = Config.frameLen ∧ acc.toNat ≠ received ∧ judge cnt acc received = .checksumError) ∨
    (cnt.toNat = Config.frameLen ∧ acc.toNat = received ∧ judge cnt acc received = .valid) := by
  by_cases hc : cnt.toNat = Config.frameLen <;> by_cases ha : acc.toNat = received <;> simp [judge, hc, ha]

/-- The numbers of `STATUS` are distinct. -/
theorem Status.code_injective {a b : Status} (h : a.code = b.code) : a = b := by
  cases a <;> cases b <;> first | rfl | exact absurd h (by decide)

end Sys2Proof.Machine
end

