-- ==== Sys2Proof/Laws/Memory.lean ====
section
/-! SUPPORT. The laws of the frame buffer: read after write, and the canonical form that every write keeps. -/

namespace Sys2Proof.Machine

@[simp] theorem readCells_nil (a : Nat) : readCells [] a = Config.unlistedByte := rfl

/-- Without its cell an address reads as unlisted, and every other address reads as before. -/
theorem readCells_filter_ne (l : List Host.Cell) (x a : Nat) :
    readCells (l.filter (fun c => decide (c.1 ≠ x))) a = if a = x then Config.unlistedByte else readCells l a := by
  induction l with
  | nil => simp
  | cons c rest ih =>
    obtain ⟨y, b⟩ := c
    by_cases hyx : y = x
    · subst hyx
      have hcons : List.filter (fun c : Host.Cell => decide (c.1 ≠ y)) ((y, b) :: rest)
          = List.filter (fun c => decide (c.1 ≠ y)) rest := by simp
      rw [hcons, ih]
      by_cases h : a = y
      · simp [h]
      · simp [h, readCells, Ne.symm h]
    · have hcons : List.filter (fun c : Host.Cell => decide (c.1 ≠ x)) ((y, b) :: rest)
          = (y, b) :: List.filter (fun c => decide (c.1 ≠ x)) rest := by simp [hyx]
      rw [hcons]
      simp only [readCells, ih]
      by_cases hya : y = a
      · simp [hya, show ¬ a = x from hya ▸ hyx]
      · simp [hya]

/-- A cell inserted where its address is not listed is read back, and every other address reads as before. -/
theorem readCells_insertCell (l : List Host.Cell) (x a : Nat) (v : Byte) (h : ∀ c ∈ l, c.1 ≠ x) :
    readCells (insertCell x v l) a = if a = x then v else readCells l a := by
  induction l with
  | nil => by_cases ha : a = x <;> simp [insertCell, readCells, ha, Ne.symm]
  | cons c rest ih =>
    obtain ⟨y, b⟩ := c
    have hyx : y ≠ x := h (y, b) (by simp)
    have ih := ih (fun c hc => h c (by simp [hc]))
    by_cases hlt : x < y
    · by_cases ha : a = x <;> simp [insertCell, hlt, readCells, ha, Ne.symm]
    · simp only [insertCell, hlt, if_false, readCells, ih]
      by_cases hya : y = a
      · simp [hya, show ¬ a = x from hya ▸ hyx]
      · simp [hya]

/-- Every read after a write: the written byte at its address, the old byte everywhere else. -/
theorem Memory.read_write (m : Memory) (x a : Nat) (v : Byte) :
    (m.write x v).read a = if a = x then v else m.read a := by
  unfold Memory.write Memory.read
  by_cases hv : v = Config.unlistedByte
  · simp only [hv, if_true, readCells_filter_ne]
  · have hfree : ∀ c ∈ m.cells.filter (fun c => decide (c.1 ≠ x)), c.1 ≠ x := by
      intro c hc; simpa using (List.mem_filter.mp hc).2
    simp only [hv, if_false, readCells_insertCell _ _ _ _ hfree, readCells_filter_ne]
    by_cases ha : a = x <;> simp [ha]

@[simp] theorem Memory.read_write_same (m : Memory) (a : Nat) (v : Byte) : (m.write a v).read a = v := by
  simp [Memory.read_write]

theorem Memory.read_write_other (m : Memory) {x a : Nat} (v : Byte) (h : a ≠ x) : (m.write x v).read a = m.read a := by
  simp [Memory.read_write, h]

/-- A canonical list may start its range lower. -/
theorem canonicalFrom_mono {l : List Host.Cell} {lo lo' : Nat} (h : canonicalFrom lo l = true) (hle : lo' ≤ lo) :
    canonicalFrom lo' l = true := by
  cases l with
  | nil => rfl
  | cons c rest =>
    simp only [canonicalFrom, Bool.and_eq_true, decide_eq_true_eq] at h ⊢
    exact ⟨⟨⟨by omega, h.1.1.2⟩, h.1.2⟩, h.2⟩

/-- Dropping a cell keeps the canonical form. -/
theorem canonicalFrom_filter (l : List Host.Cell) (lo x : Nat) (h : canonicalFrom lo l = true) :
    canonicalFrom lo (l.filter (fun c => decide (c.1 ≠ x))) = true := by
  induction l generalizing lo with
  | nil => rfl
  | cons c rest ih =>
    obtain ⟨y, b⟩ := c
    simp only [canonicalFrom, Bool.and_eq_true, decide_eq_true_eq] at h
    by_cases hyx : y = x
    · have hcons : List.filter (fun c : Host.Cell => decide (c.1 ≠ x)) ((y, b) :: rest)
          = List.filter (fun c => decide (c.1 ≠ x)) rest := by simp [hyx]
      rw [hcons]
      exact canonicalFrom_mono (ih (y + 1) h.2) (by omega)
    · have hcons : List.filter (fun c : Host.Cell => decide (c.1 ≠ x)) ((y, b) :: rest)
          = (y, b) :: List.filter (fun c => decide (c.1 ≠ x)) rest := by simp [hyx]
      rw [hcons]
      simp only [canonicalFrom, Bool.and_eq_true, decide_eq_true_eq]
      exact ⟨h.1, ih (y + 1) h.2⟩

/-- Inserting a listed value at an address of the frame space keeps the canonical form. -/
theorem canonicalFrom_insertCell (l : List Host.Cell) (lo x : Nat) (v : Byte) (h : canonicalFrom lo l = true)
    (hlo : lo ≤ x) (hx : x < Config.frameLen) (hv : v ≠ Config.unlistedByte) (hfree : ∀ c ∈ l, c.1 ≠ x) :
    canonicalFrom lo (insertCell x v l) = true := by
  induction l generalizing lo with
  | nil => simp [insertCell, canonicalFrom, hlo, hx, hv]
  | cons c rest ih =>
    obtain ⟨y, b⟩ := c
    have hyx : y ≠ x := hfree (y, b) (by simp)
    simp only [canonicalFrom, Bool.and_eq_true, decide_eq_true_eq] at h
    by_cases hlt : x < y
    · simp only [insertCell, hlt, if_true, canonicalFrom, Bool.and_eq_true, decide_eq_true_eq]
      exact ⟨⟨⟨hlo, hx⟩, by simpa using hv⟩, ⟨⟨by omega, h.1.1.2⟩, h.1.2⟩, h.2⟩
    · simp only [insertCell, hlt, if_false, canonicalFrom, Bool.and_eq_true, decide_eq_true_eq]
      exact ⟨h.1, ih (y + 1) h.2 (by omega) (fun c hc => hfree c (by simp [hc]))⟩

/-- A write inside the frame space keeps the canonical form. -/
theorem Memory.write_wf (m : Memory) (x : Nat) (v : Byte) (h : m.wf = true) (hx : x < Config.frameLen) :
    (m.write x v).wf = true := by
  unfold Memory.write Memory.wf at *
  by_cases hv : v = Config.unlistedByte
  · simpa only [hv, if_true] using canonicalFrom_filter m.cells 0 x h
  · have hfree : ∀ c ∈ m.cells.filter (fun c => decide (c.1 ≠ x)), c.1 ≠ x := by
      intro c hc; simpa using (List.mem_filter.mp hc).2
    simpa only [hv, if_false] using
      canonicalFrom_insertCell _ 0 x v (canonicalFrom_filter m.cells 0 x h) (by omega) hx hv hfree

/-- Writing a sequence of bytes that stays inside the frame space keeps the canonical form. -/
theorem Memory.writeBytes_wf (bs : List Byte) (m : Memory) (lo : Nat) (h : m.wf = true)
    (hlen : lo + bs.length ≤ Config.frameLen) : (m.writeBytes lo bs).wf = true := by
  induction bs generalizing m lo with
  | nil => exact h
  | cons b rest ih =>
    simp only [List.length_cons] at hlen
    exact ih _ _ (m.write_wf lo b h (by omega)) (by omega)

theorem Memory.reset_wf : State.reset.fb.wf = true := rfl

@[simp] theorem Memory.bytes_length (m : Memory) (lo n : Nat) : (m.bytes lo n).length = n := by simp [Memory.bytes]

/-- One byte read as a field of one byte. -/
theorem Memory.bigEndian_bytes_one (m : Memory) (a : Nat) : bigEndian (m.bytes a 1) = (m.read a).toNat := by
  simp [Memory.bytes, bigEndian]

/-- Two bytes read as a field: the lower address is the more significant (R46, R47). -/
theorem Memory.bigEndian_bytes_two (m : Memory) (a : Nat) :
    bigEndian (m.bytes a 2) = 256 * (m.read a).toNat + (m.read (a + 1)).toNat := by
  simp [Memory.bytes, bigEndian, List.range_succ]; omega

/-- Four bytes read as a field (R47). -/
theorem Memory.bigEndian_bytes_four (m : Memory) (a : Nat) :
    bigEndian (m.bytes a 4) = 16777216 * (m.read a).toNat + 65536 * (m.read (a + 1)).toNat +
      256 * (m.read (a + 2)).toNat + (m.read (a + 3)).toNat := by
  simp [Memory.bytes, bigEndian, List.range_succ]; omega

/-- A big-endian value fits the bits of its bytes (R10). -/
theorem bigEndian_lt (s : List Byte) : bigEndian s < 256 ^ s.length := by
  induction s with
  | nil => simp [bigEndian]
  | cons b rest ih =>
    have hb : b.toNat < 256 := b.isLt
    have hp : 0 < 256 ^ rest.length := Nat.pow_pos (by omega)
    simp only [bigEndian, List.length_cons, Nat.pow_succ]
    nlinarith

end Sys2Proof.Machine
end

