-- ==== Sys2Proof/Laws/State.lean ====
section
/-! SUPPORT. What each update of State leaves in each field; true by rfl. -/

namespace Sys2Proof.Machine

@[simp] theorem State.respond_fb (s : State) (r : Response) : (s.respond r).fb = s.fb := rfl
@[simp] theorem State.respond_cnt (s : State) (r : Response) : (s.respond r).cnt = s.cnt := rfl
@[simp] theorem State.respond_acc (s : State) (r : Response) : (s.respond r).acc = s.acc := rfl
@[simp] theorem State.respond_status (s : State) (r : Response) : (s.respond r).status = s.status := rfl
@[simp] theorem State.respond_cmdPad (s : State) (r : Response) : (s.respond r).cmdPad = s.cmdPad := rfl
@[simp] theorem State.respond_issued (s : State) (r : Response) : (s.respond r).issued = s.issued := rfl
@[simp] theorem State.respond_resp (s : State) (r : Response) : (s.respond r).resp = some r := rfl

@[simp] theorem State.refuse_fb (s : State) (r : Response) : (s.refuse r).fb = s.fb := rfl
@[simp] theorem State.refuse_cnt (s : State) (r : Response) : (s.refuse r).cnt = s.cnt := rfl
@[simp] theorem State.refuse_acc (s : State) (r : Response) : (s.refuse r).acc = s.acc := rfl
@[simp] theorem State.refuse_status (s : State) (r : Response) : (s.refuse r).status = s.status := rfl
@[simp] theorem State.refuse_cmdPad (s : State) (r : Response) : (s.refuse r).cmdPad = s.cmdPad := rfl
@[simp] theorem State.refuse_issued (s : State) (r : Response) : (s.refuse r).issued = s.issued := rfl
@[simp] theorem State.refuse_resp (s : State) (r : Response) : (s.refuse r).resp = some r := rfl

@[simp] theorem State.illegalOp_fb (s : State) : s.illegalOp.fb = s.fb := rfl
@[simp] theorem State.illegalOp_cnt (s : State) : s.illegalOp.cnt = s.cnt := rfl
@[simp] theorem State.illegalOp_acc (s : State) : s.illegalOp.acc = s.acc := rfl
@[simp] theorem State.illegalOp_status (s : State) : s.illegalOp.status = s.status := rfl
@[simp] theorem State.illegalOp_cmdPad (s : State) : s.illegalOp.cmdPad = s.cmdPad := rfl
@[simp] theorem State.illegalOp_issued (s : State) : s.illegalOp.issued = s.issued := rfl
@[simp] theorem State.illegalOp_resp (s : State) : s.illegalOp.resp = some .illegalOp := rfl

@[simp] theorem State.conclude_fb (s : State) (v : Verdict) : (s.conclude v).fb = s.fb := rfl
@[simp] theorem State.conclude_cnt (s : State) (v : Verdict) : (s.conclude v).cnt = s.cnt := rfl
@[simp] theorem State.conclude_acc (s : State) (v : Verdict) : (s.conclude v).acc = s.acc := rfl
@[simp] theorem State.conclude_status (s : State) (v : Verdict) : (s.conclude v).status = v.status := rfl
@[simp] theorem State.conclude_cmdPad (s : State) (v : Verdict) : (s.conclude v).cmdPad = s.cmdPad := rfl
@[simp] theorem State.conclude_issued (s : State) (v : Verdict) : (s.conclude v).issued = s.issued := rfl
@[simp] theorem State.conclude_resp (s : State) (v : Verdict) : (s.conclude v).resp = some v.response := rfl

@[simp] theorem State.startFrame_fb (s : State) : s.startFrame.fb = s.fb := rfl
@[simp] theorem State.startFrame_cnt (s : State) : s.startFrame.cnt = 0#7 := rfl
@[simp] theorem State.startFrame_acc (s : State) : s.startFrame.acc = 0#8 := rfl
@[simp] theorem State.startFrame_status (s : State) : s.startFrame.status = .recv := rfl
@[simp] theorem State.startFrame_cmdPad (s : State) : s.startFrame.cmdPad = s.cmdPad := rfl
@[simp] theorem State.startFrame_issued (s : State) : s.startFrame.issued = s.issued := rfl
@[simp] theorem State.startFrame_resp (s : State) : s.startFrame.resp = some (.ok {}) := rfl

@[simp] theorem State.withFetchWord_fb (s : State) (n w : Nat) : (s.withFetchWord n w).fb = s.fb := rfl
@[simp] theorem State.withFetchWord_cnt (s : State) (n w : Nat) : (s.withFetchWord n w).cnt = s.cnt := rfl
@[simp] theorem State.withFetchWord_acc (s : State) (n w : Nat) : (s.withFetchWord n w).acc = s.acc := rfl
@[simp] theorem State.withFetchWord_status (s : State) (n w : Nat) : (s.withFetchWord n w).status = s.status := rfl
@[simp] theorem State.withFetchWord_cmdPad (s : State) (n w : Nat) : (s.withFetchWord n w).cmdPad = s.cmdPad := rfl
@[simp] theorem State.withFetchWord_issued (s : State) (n w : Nat) : (s.withFetchWord n w).issued = BitVec.ofNat 24 (w % 2 ^ n) :: s.issued := rfl
@[simp] theorem State.withFetchWord_resp (s : State) (n w : Nat) : (s.withFetchWord n w).resp = s.resp := rfl

@[simp] theorem State.resetWith_fb (fb : Memory) (pad : Vector Byte 5) : (State.resetWith fb pad).fb = fb := rfl
@[simp] theorem State.resetWith_cnt (fb : Memory) (pad : Vector Byte 5) : (State.resetWith fb pad).cnt = 0#7 := rfl
@[simp] theorem State.resetWith_acc (fb : Memory) (pad : Vector Byte 5) : (State.resetWith fb pad).acc = 0#8 := rfl
@[simp] theorem State.resetWith_status (fb : Memory) (pad : Vector Byte 5) : (State.resetWith fb pad).status = .recv := rfl
@[simp] theorem State.resetWith_cmdPad (fb : Memory) (pad : Vector Byte 5) : (State.resetWith fb pad).cmdPad = pad := rfl
@[simp] theorem State.resetWith_issued (fb : Memory) (pad : Vector Byte 5) : (State.resetWith fb pad).issued = [] := rfl
@[simp] theorem State.resetWith_resp (fb : Memory) (pad : Vector Byte 5) : (State.resetWith fb pad).resp = none := rfl

end Sys2Proof.Machine
end

