-- ==== Sys2Proof/Laws/Ops.lean ====
section
/-! SUPPORT. For each shared operation, once, everything it can do. -/

namespace Sys2Proof.Machine

/-- A frame read inside the frame space hands its value on. -/
theorem memRead_of_le {s : State} {addr n : Nat} {k : Nat → Result} (h : addr + n ≤ Config.frameLen) :
    memRead s addr n k = k (bigEndian (s.fb.bytes addr n)) := if_pos h

/-- If a frame read goes on, it read inside the frame space and went on with the big-endian value. -/
theorem memRead_next {s t : State} {addr n : Nat} {k : Nat → Result} (h : memRead s addr n k = .next t) :
    addr + n ≤ Config.frameLen ∧ k (bigEndian (s.fb.bytes addr n)) = .next t := by
  by_cases hle : addr + n ≤ Config.frameLen
  · exact ⟨hle, by rwa [memRead_of_le hle] at h⟩
  · simp [memRead, hle] at h

/-- A frame write inside the frame space hands the new contents on. -/
theorem memWrite_of_lt {s : State} {addr : Nat} {v : Byte} {k : Memory → Result} (h : addr < Config.frameLen) :
    memWrite s addr v k = k (s.fb.write addr v) := if_pos h

/-- If a frame write goes on, it wrote inside the frame space. -/
theorem memWrite_next {s t : State} {addr : Nat} {v : Byte} {k : Memory → Result} (h : memWrite s addr v k = .next t) :
    addr < Config.frameLen ∧ k (s.fb.write addr v) = .next t := by
  by_cases hlt : addr < Config.frameLen
  · exact ⟨hlt, by rwa [memWrite_of_lt hlt] at h⟩
  · simp [memWrite, hlt] at h

/-- The store of a `PUSH` always goes on: at address `CNT` while it is at most 92, else nowhere. -/
theorem storeIncoming_eq (s : State) (b : Byte) (k : Memory → Result) :
    storeIncoming s b k = k (if s.cnt.toNat ≤ Config.csumIdx then s.fb.write s.cnt.toNat b else s.fb) := by
  by_cases h : s.cnt.toNat ≤ Config.csumIdx
  · have hlt : s.cnt.toNat < Config.frameLen := by simp only [Config.csumIdx, Config.frameLen] at *; omega
    simp [storeIncoming, h, memWrite_of_lt hlt]
  · simp [storeIncoming, h]

/-- If a receiving operation goes on, either its body did, in `RECV`, or it was refused and only answered. -/
theorem whileReceiving_next {s t : State} {body : Result} (h : whileReceiving s body = .next t) :
    (s.status = .recv ∧ body = .next t) ∨ (s.status ≠ .recv ∧ t = s.refuse .notReceiving) := by
  by_cases hs : s.status = .recv
  · exact .inl ⟨hs, by simpa [whileReceiving, hs] using h⟩
  · refine .inr ⟨hs, ?_⟩
    simp [whileReceiving, hs] at h
    exact h.symm

/-- If a gated operation goes on, either its body did, in `VALID`, or it was refused and only answered. -/
theorem whileValid_next {s t : State} {body : Result} (h : whileValid s body = .next t) :
    (s.status = .valid ∧ body = .next t) ∨ (s.status ≠ .valid ∧ t = s.refuse .notValid) := by
  by_cases hs : s.status = .valid
  · exact .inl ⟨hs, by simpa [whileValid, hs] using h⟩
  · refine .inr ⟨hs, ?_⟩
    simp [whileValid, hs] at h
    exact h.symm

/-- A read inside the frame space answers its data in `VALID` and NOT_VALID elsewhere; it writes nothing else. -/
theorem readFrame_eq {lo n : Nat} {present : Nat → RespData} (s : State) (h : lo + n ≤ Config.frameLen) :
    readFrame lo n present s =
      .next (s.respond (if s.status = .valid then .ok (present (bigEndian (s.fb.bytes lo n))) else .notValid)) := by
  by_cases hs : s.status = .valid <;> simp [readFrame, whileValid, hs, memRead_of_le h, State.refuse]

/-- Every field of the table lies inside the frame space (R62). -/
theorem fieldTable_inside : ∀ f ∈ fieldTable, f.lo + f.n ≤ Config.frameLen := by decide

/-- A read of a field of the table (R62): its data in `VALID`, NOT_VALID elsewhere. -/
theorem readField_eq {f : Field} (s : State) (hf : f ∈ fieldTable) :
    readField f s =
      .next (s.respond (if s.status = .valid then .ok (f.kind.present (bigEndian (s.fb.bytes f.lo f.n))) else .notValid)) :=
  readFrame_eq s (fieldTable_inside f hf)

end Sys2Proof.Machine
end

