-- ==== Sys2Proof/Laws/PerInstr.lean ====
section
/-! SUPPORT. Facts about each operation as syntax, one lemma per constructor: an operation's word is 0 outside the bits it uses (`30_encoding.md` R76). -/

namespace Sys2Proof.Laws.UnusedOperandsZero

/-- The word of an operation has 0 in every bit the operation does not use. -/
def Statement (i : Instr) : Prop := encode i &&& i.usedBits = encode i

theorem nop : Statement .nop := by unfold Statement; decide
theorem clear : Statement .clear := by unfold Statement; decide
theorem push (b : Byte) : Statement (.push b) := by revert b; unfold Statement; decide
theorem endFrame : Statement .endFrame := by unfold Statement; decide
theorem rdstat : Statement .rdstat := by unfold Statement; decide
theorem buildcmd (a f : Byte) : Statement (.buildcmd a f) := BitVec.and_allOnes
theorem rdbyte (b : Byte) : Statement (.rdbyte b) := by revert b; unfold Statement; decide
theorem rdAddress : Statement .rdAddress := by unfold Statement; decide
theorem rdCommandType : Statement .rdCommandType := by unfold Statement; decide
theorem rdControlCode : Statement .rdControlCode := by unfold Statement; decide
theorem rdOperatingStatus : Statement .rdOperatingStatus := by unfold Statement; decide
theorem rdChargingStatus : Statement .rdChargingStatus := by unfold Statement; decide
theorem rdControlStatus : Statement .rdControlStatus := by unfold Statement; decide
theorem rdBatteryType : Statement .rdBatteryType := by unfold Statement; decide
theorem rdBatteryIdMethod : Statement .rdBatteryIdMethod := by unfold Statement; decide
theorem rdNumberOfBatteries : Statement .rdNumberOfBatteries := by unfold Statement; decide
theorem rdLoadControlMode : Statement .rdLoadControlMode := by unfold Statement; decide
theorem rdMpptAddressConfirm : Statement .rdMpptAddressConfirm := by unfold Statement; decide
theorem rdBaudRate : Statement .rdBaudRate := by unfold Statement; decide
theorem rdRatedVoltageLevel : Statement .rdRatedVoltageLevel := by unfold Statement; decide
theorem rdUpperChargeVoltage : Statement .rdUpperChargeVoltage := by unfold Statement; decide
theorem rdFloatVoltageLimit : Statement .rdFloatVoltageLimit := by unfold Statement; decide
theorem rdLowVoltageDischargeLimit : Statement .rdLowVoltageDischargeLimit := by unfold Statement; decide
theorem rdHardwareMaxChargingCurrentLimit : Statement .rdHardwareMaxChargingCurrentLimit := by unfold Statement; decide
theorem rdDefinedChargeLimit : Statement .rdDefinedChargeLimit := by unfold Statement; decide
theorem rdRunningChargingCurrentLimit : Statement .rdRunningChargingCurrentLimit := by unfold Statement; decide
theorem rdPvVoltageIn : Statement .rdPvVoltageIn := by unfold Statement; decide
theorem rdBatteryVoltage : Statement .rdBatteryVoltage := by unfold Statement; decide
theorem rdChargingCurrent : Statement .rdChargingCurrent := by unfold Statement; decide
theorem rdInternalTemperature : Statement .rdInternalTemperature := by unfold Statement; decide
theorem rdExternalTemperature : Statement .rdExternalTemperature := by unfold Statement; decide
theorem rdEnergyToday : Statement .rdEnergyToday := by unfold Statement; decide
theorem rdTotalEnergyGenerated : Statement .rdTotalEnergyGenerated := by unfold Statement; decide

end Sys2Proof.Laws.UnusedOperandsZero
end

