-- ==== Sys2Proof/Laws/Program.lean ====
section
/-! SUPPORT. Sequences of operations, cut and joined. -/

namespace Sys2Proof.Machine

@[simp] theorem execSeq_nil (s : State) : execSeq [] s = .next s := rfl

theorem execSeq_cons {i : Instr} {rest : List Instr} {s t : State} (h : exec i s = .next t) :
    execSeq (i :: rest) s = execSeq rest t := by simp [execSeq, h]

/-- A sequence that goes on is followed by the rest from where it ended. -/
theorem execSeq_append {xs ys : List Instr} {s t : State} (h : execSeq xs s = .next t) :
    execSeq (xs ++ ys) s = execSeq ys t := by
  induction xs generalizing s with
  | nil => cases h; rfl
  | cons i rest ih =>
    simp only [List.cons_append, execSeq] at h ⊢
    split at h
    · rename_i u hu; exact ih h
    · cases h
    · cases h

@[simp] theorem pushedBytes_pushN (bs : List Byte) : pushedBytes (pushN bs) = bs := by
  induction bs with
  | nil => rfl
  | cons b rest ih => simpa [pushedBytes, pushN, pushedByte] using ih

end Sys2Proof.Machine
end

