-- ==== Sys2Proof/Tests/Slice0.lean ====
section
/-! SUPPORT. The model's own tests. Expected values are the spec's: `95_test_vectors.md` (sections in brackets) or the
rule named. The last part shows for each statement with hypotheses a state and operands that meet them. -/

namespace Sys2Proof.Tests

open Sys2Proof.Machine Sys2Proof.Safety

-- ---------------------------------------------------------------- helpers

/-- The response in a next state. -/
def answer : Result → Option Response
  | .next t => t.resp
  | .fault _ => none
  | .refused _ => none

/-- `(STATUS, CNT, ACC)` in a next state, as the spec's vectors write it. -/
def triple : Result → Option (Status × Nat × Nat)
  | .next t => some (t.status, t.cnt.toNat, t.acc.toNat)
  | .fault _ => none
  | .refused _ => none

/-- A state with a status, a count, an accumulator and a few cells of `FB`. -/
def at_ (status : Status) (cnt : Nat) (acc : Byte) (cells : List Host.Cell) : State :=
  { State.reset with status := status, cnt := BitVec.ofNat 7 cnt, acc := acc, fb := ⟨cells⟩ }

/-- A `VALID` state with a few cells of `FB`; the reads look at nothing else. -/
def valid (cells : List Host.Cell) : State := at_ .valid 93 0x6A#8 cells

-- ---------------------------------------------------------------- decoding: every constructor's word, from R65

theorem test_decode_nop : decode 0x000000#24 = .ok .nop := rfl
theorem test_decode_clear : decode 0x010000#24 = .ok .clear := rfl
theorem test_decode_push : decode 0x026A00#24 = .ok (.push 0x6A#8) := rfl
theorem test_decode_endFrame : decode 0x030000#24 = .ok .endFrame := rfl
theorem test_decode_rdstat : decode 0x040000#24 = .ok .rdstat := rfl
theorem test_decode_buildcmd : decode 0x0501B1#24 = .ok (.buildcmd 0x01#8 0xB1#8) := rfl
theorem test_decode_rdbyte : decode 0x065C00#24 = .ok (.rdbyte 92#8) := rfl
theorem test_decode_rdAddress : decode 0x400000#24 = .ok .rdAddress := rfl
theorem test_decode_rdCommandType : decode 0x410000#24 = .ok .rdCommandType := rfl
theorem test_decode_rdControlCode : decode 0x420000#24 = .ok .rdControlCode := rfl
theorem test_decode_rdOperatingStatus : decode 0x430000#24 = .ok .rdOperatingStatus := rfl
theorem test_decode_rdChargingStatus : decode 0x440000#24 = .ok .rdChargingStatus := rfl
theorem test_decode_rdControlStatus : decode 0x450000#24 = .ok .rdControlStatus := rfl
theorem test_decode_rdBatteryType : decode 0x460000#24 = .ok .rdBatteryType := rfl
theorem test_decode_rdBatteryIdMethod : decode 0x470000#24 = .ok .rdBatteryIdMethod := rfl
theorem test_decode_rdNumberOfBatteries : decode 0x480000#24 = .ok .rdNumberOfBatteries := rfl
theorem test_decode_rdLoadControlMode : decode 0x490000#24 = .ok .rdLoadControlMode := rfl
theorem test_decode_rdMpptAddressConfirm : decode 0x4A0000#24 = .ok .rdMpptAddressConfirm := rfl
theorem test_decode_rdBaudRate : decode 0x4B0000#24 = .ok .rdBaudRate := rfl
theorem test_decode_rdRatedVoltageLevel : decode 0x500000#24 = .ok .rdRatedVoltageLevel := rfl
theorem test_decode_rdUpperChargeVoltage : decode 0x510000#24 = .ok .rdUpperChargeVoltage := rfl
theorem test_decode_rdFloatVoltageLimit : decode 0x520000#24 = .ok .rdFloatVoltageLimit := rfl
theorem test_decode_rdLowVoltageDischargeLimit : decode 0x530000#24 = .ok .rdLowVoltageDischargeLimit := rfl
theorem test_decode_rdHardwareMaxChargingCurrentLimit : decode 0x540000#24 = .ok .rdHardwareMaxChargingCurrentLimit := rfl
theorem test_decode_rdDefinedChargeLimit : decode 0x550000#24 = .ok .rdDefinedChargeLimit := rfl
theorem test_decode_rdRunningChargingCurrentLimit : decode 0x560000#24 = .ok .rdRunningChargingCurrentLimit := rfl
theorem test_decode_rdPvVoltageIn : decode 0x570000#24 = .ok .rdPvVoltageIn := rfl
theorem test_decode_rdBatteryVoltage : decode 0x580000#24 = .ok .rdBatteryVoltage := rfl
theorem test_decode_rdChargingCurrent : decode 0x590000#24 = .ok .rdChargingCurrent := rfl
theorem test_decode_rdInternalTemperature : decode 0x5A0000#24 = .ok .rdInternalTemperature := rfl
theorem test_decode_rdExternalTemperature : decode 0x5B0000#24 = .ok .rdExternalTemperature := rfl
theorem test_decode_rdEnergyToday : decode 0x5C0000#24 = .ok .rdEnergyToday := rfl
theorem test_decode_rdTotalEnergyGenerated : decode 0x5D0000#24 = .ok .rdTotalEnergyGenerated := rfl

-- operands that an operation ignores [7], and the reserved words of the same table
theorem test_decode_ignored : decode 0x5812CD#24 = .ok .rdBatteryVoltage ∧ decode 0x04FFFF#24 = .ok .rdstat := ⟨rfl, rfl⟩
theorem test_decode_reserved_class0 : decode 0x070000#24 = .error (.reservedControl 0x07#8) ∧
    decode 0x3F0000#24 = .error (.reservedControl 0x3F#8) := ⟨rfl, rfl⟩
theorem test_decode_reserved_class1 : decode 0x4C0000#24 = .error (.reservedField 0x4C#8) ∧
    decode 0x4F0000#24 = .error (.reservedField 0x4F#8) ∧ decode 0x5E0000#24 = .error (.reservedField 0x5E#8) ∧
    decode 0x7F0000#24 = .error (.reservedField 0x7F#8) := ⟨rfl, rfl, rfl, rfl⟩
theorem test_decode_reserved_class23 : decode 0x801234#24 = .error (.reservedClass 0x80#8) ∧
    decode 0xFFFFFF#24 = .error (.reservedClass 0xFF#8) := ⟨rfl, rfl⟩
theorem test_decodeTableWord : decodeTableWord 24 0x4B0000 = some .rdBaudRate ∧ decodeTableWord 24 0x4C0000 = none := by decide
-- OP = 0x40 + FSEL (R65)
theorem test_opcode_is_fsel : readAll.map (fun i => i.opcode.toNat) = fieldTable.map (fun f => 0x40 + f.fsel) := by decide

-- ---------------------------------------------------------------- well-formedness (R66)

theorem test_wellFormed_refuses_index : (Instr.rdbyte 93#8).wellFormed = false ∧ frameIndexLegal 255#8 = false := by decide
theorem test_wellFormed_accepts_index : (Instr.rdbyte 92#8).wellFormed = true := by decide

-- ---------------------------------------------------------------- NOP, CLEAR, PUSH, END, RDSTAT, BUILDCMD

theorem test_nop : exec .nop (valid []) = .next { valid [] with resp := some (.ok {}) } := rfl
-- R94's example
theorem test_clear : triple (exec .clear (at_ .errChecksum 93 0x6A#8 [])) = some (.recv, 0, 0) := by decide
-- R95's examples, and the step detail of [4]
theorem test_push_stores : triple (exec (.push 0xB1#8) (at_ .recv 1 0x01#8 [])) = some (.recv, 2, 0xB2) := by decide
theorem test_push_wraps : triple (exec (.push 0xC0#8) (at_ .recv 17 0x6D#8 [])) = some (.recv, 18, 0x2D) := by decide
-- R96's example
theorem test_end_valid : triple (exec .endFrame (at_ .recv 93 0x6A#8 [(92, 0x6A#8)])) = some (.valid, 93, 0x6A) := by decide
theorem test_end_checksum : answer (exec .endFrame (at_ .recv 93 0x6A#8 [(92, 0x6B#8)])) = some .checksumError := by decide
-- R97's example: 0x0DD6A; Frame B 0x1DD6A [4]
theorem test_rdstat : answer (exec .rdstat (valid [])) = some (.ok { raw := 0x0DD6A#32 }) := by decide
theorem test_rdstat_error : answer (exec .rdstat (at_ .errLength 94 0x6A#8 [])) = some (.ok { raw := 0x15E6A#32 }) := by decide
-- [3]: the default CMD_PAD, and the alternative
theorem test_buildcmd_wraps : answer (exec (.buildcmd 0x4E#8 0xB1#8) State.reset) =
    some (.ok { cmd := #v[0x4E#8, 0xB1#8, 0x01#8, 0#8, 0#8, 0#8, 0#8, 0x00#8] }) := by decide
theorem test_buildcmd_alternative :
    answer (exec (.buildcmd 0x01#8 0xB1#8) { State.reset with cmdPad := Config.alternativeCmdPad }) =
    some (.ok { cmd := #v[0x01#8, 0xB1#8, 0x00#8, 0#8, 0#8, 0#8, 0#8, 0xB2#8] }) := by decide

-- ---------------------------------------------------------------- RDBYTE [5]

theorem test_rdbyte_last : answer (exec (.rdbyte 92#8) (valid [(92, 0x6A#8)])) = some (.ok { raw := 0x6A#32, known := true }) := by decide
theorem test_rdbyte_index : answer (exec (.rdbyte 93#8) (valid [])) = some .indexRange ∧
    answer (exec (.rdbyte 93#8) (at_ .errChecksum 93 0#8 [])) = some .notValid := by decide

-- ---------------------------------------------------------------- RD.<field>: Frame A [5], then a corner of [5] or [6]

theorem test_rdAddress : answer (exec .rdAddress (valid [(0, 0x01#8), (1, 0x22#8)])) = some (.ok { raw := 1#32, known := true }) := by decide
theorem test_rdCommandType : answer (exec .rdCommandType (valid [(0, 0x11#8), (1, 0xB1#8), (2, 0x22#8)])) = some (.ok { raw := 177#32, known := true }) := by decide
theorem test_rdControlCode : answer (exec .rdControlCode (valid [(1, 0x11#8), (2, 0x01#8), (3, 0x22#8)])) = some (.ok { raw := 1#32, known := true }) := by decide
theorem test_rdOperatingStatus : answer (exec .rdOperatingStatus (valid [(2, 0x11#8), (3, 0x05#8), (4, 0x22#8)])) = some (.ok { raw := 5#32, known := true }) := by decide
theorem test_rdChargingStatus : answer (exec .rdChargingStatus (valid [(3, 0x11#8), (4, 0x82#8), (5, 0x22#8)])) = some (.ok { raw := 130#32, known := true }) := by decide
theorem test_rdControlStatus : answer (exec .rdControlStatus (valid [(4, 0x11#8), (5, 0x13#8), (6, 0x22#8)])) = some (.ok { raw := 19#32, known := true }) := by decide
theorem test_rdBatteryType : answer (exec .rdBatteryType (valid [(7, 0x11#8), (8, 0x03#8), (9, 0x22#8)])) = some (.ok { raw := 3#32, known := true, sel := 3#3 }) := by decide
theorem test_rdBatteryType_unknown : answer (exec .rdBatteryType (valid [(7, 0x11#8), (8, 0x04#8), (9, 0x22#8)])) = some (.ok { raw := 4#32 }) := by decide
theorem test_rdBatteryIdMethod : answer (exec .rdBatteryIdMethod (valid [(8, 0x11#8), (9, 0x01#8), (10, 0x22#8)])) = some (.ok { raw := 1#32, known := true, sel := 1#3 }) := by decide
theorem test_rdBatteryIdMethod_auto : answer (exec .rdBatteryIdMethod (valid [(8, 0x11#8), (10, 0x22#8)])) = some (.ok { raw := 0#32, known := true }) := by decide
theorem test_rdNumberOfBatteries : answer (exec .rdNumberOfBatteries (valid [(9, 0x11#8), (10, 0x04#8), (11, 0x22#8)])) = some (.ok { raw := 4#32, known := true }) := by decide
theorem test_rdLoadControlMode : answer (exec .rdLoadControlMode (valid [(10, 0x11#8), (11, 0x01#8), (12, 0x22#8)])) = some (.ok { raw := 1#32, known := true, sel := 1#3 }) := by decide
theorem test_rdLoadControlMode_unknown : answer (exec .rdLoadControlMode (valid [(10, 0x11#8), (11, 0x05#8), (12, 0x22#8)])) = some (.ok { raw := 5#32 }) := by decide
theorem test_rdMpptAddressConfirm : answer (exec .rdMpptAddressConfirm (valid [(11, 0x11#8), (12, 0x01#8), (13, 0x22#8)])) = some (.ok { raw := 1#32, known := true }) := by decide
theorem test_rdBaudRate : answer (exec .rdBaudRate (valid [(12, 0x11#8), (13, 0x04#8), (14, 0x22#8)])) = some (.ok { raw := 4#32, ipart := 9600#23, known := true, sel := 3#3 }) := by decide
theorem test_rdBaudRate_zero_unknown : answer (exec .rdBaudRate (valid [(12, 0x11#8), (14, 0x22#8)])) = some (.ok { raw := 0#32 }) := by decide
theorem test_rdRatedVoltageLevel : answer (exec .rdRatedVoltageLevel (valid [(15, 0x11#8), (16, 0x12#8), (17, 0xC0#8), (18, 0x22#8)])) = some (.ok { raw := 4800#32, ipart := 48#23, known := true }) := by decide
theorem test_rdRatedVoltageLevel_high : answer (exec .rdRatedVoltageLevel (valid [(15, 0x11#8), (16, 0xFF#8), (17, 0xFF#8), (18, 0x22#8)])) = some (.ok { raw := 65535#32, ipart := 655#23, fpart := 35#10, known := true }) := by decide
theorem test_rdUpperChargeVoltage : answer (exec .rdUpperChargeVoltage (valid [(17, 0x11#8), (18, 0x16#8), (19, 0x80#8), (20, 0x22#8)])) = some (.ok { raw := 5760#32, ipart := 57#23, fpart := 60#10, known := true }) := by decide
theorem test_rdUpperChargeVoltage_high : answer (exec .rdUpperChargeVoltage (valid [(17, 0x11#8), (18, 0xFF#8), (19, 0xFF#8), (20, 0x22#8)])) = some (.ok { raw := 65535#32, ipart := 655#23, fpart := 35#10, known := true }) := by decide
theorem test_rdFloatVoltageLimit : answer (exec .rdFloatVoltageLimit (valid [(19, 0x11#8), (20, 0x15#8), (21, 0x90#8), (22, 0x22#8)])) = some (.ok { raw := 5520#32, ipart := 55#23, fpart := 20#10, known := true }) := by decide
theorem test_rdFloatVoltageLimit_high : answer (exec .rdFloatVoltageLimit (valid [(19, 0x11#8), (20, 0xFF#8), (21, 0xFF#8), (22, 0x22#8)])) = some (.ok { raw := 65535#32, ipart := 655#23, fpart := 35#10, known := true }) := by decide
theorem test_rdLowVoltageDischargeLimit : answer (exec .rdLowVoltageDischargeLimit (valid [(21, 0x11#8), (22, 0x10#8), (23, 0x68#8), (24, 0x22#8)])) = some (.ok { raw := 4200#32, ipart := 42#23, known := true }) := by decide
theorem test_rdLowVoltageDischargeLimit_high : answer (exec .rdLowVoltageDischargeLimit (valid [(21, 0x11#8), (22, 0xFF#8), (23, 0xFF#8), (24, 0x22#8)])) = some (.ok { raw := 65535#32, ipart := 655#23, fpart := 35#10, known := true }) := by decide
theorem test_rdHardwareMaxChargingCurrentLimit : answer (exec .rdHardwareMaxChargingCurrentLimit (valid [(23, 0x11#8), (24, 0x17#8), (25, 0x70#8), (26, 0x22#8)])) = some (.ok { raw := 6000#32, ipart := 60#23, known := true }) := by decide
theorem test_rdHardwareMaxChargingCurrentLimit_high : answer (exec .rdHardwareMaxChargingCurrentLimit (valid [(23, 0x11#8), (24, 0xFF#8), (25, 0xFF#8), (26, 0x22#8)])) = some (.ok { raw := 65535#32, ipart := 655#23, fpart := 35#10, known := true }) := by decide
theorem test_rdDefinedChargeLimit : answer (exec .rdDefinedChargeLimit (valid [(25, 0x11#8), (26, 0x0F#8), (27, 0xA0#8), (28, 0x22#8)])) = some (.ok { raw := 4000#32, ipart := 40#23, known := true }) := by decide
theorem test_rdDefinedChargeLimit_high : answer (exec .rdDefinedChargeLimit (valid [(25, 0x11#8), (26, 0xFF#8), (27, 0xFF#8), (28, 0x22#8)])) = some (.ok { raw := 65535#32, ipart := 655#23, fpart := 35#10, known := true }) := by decide
theorem test_rdRunningChargingCurrentLimit : answer (exec .rdRunningChargingCurrentLimit (valid [(27, 0x11#8), (28, 0x0F#8), (29, 0xA0#8), (30, 0x22#8)])) = some (.ok { raw := 4000#32, ipart := 40#23, known := true }) := by decide
theorem test_rdRunningChargingCurrentLimit_high : answer (exec .rdRunningChargingCurrentLimit (valid [(27, 0x11#8), (28, 0xFF#8), (29, 0xFF#8), (30, 0x22#8)])) = some (.ok { raw := 65535#32, ipart := 655#23, fpart := 35#10, known := true }) := by decide
theorem test_rdPvVoltageIn : answer (exec .rdPvVoltageIn (valid [(29, 0x11#8), (30, 0x04#8), (31, 0xD2#8), (32, 0x22#8)])) = some (.ok { raw := 1234#32, ipart := 123#23, fpart := 4#10, known := true }) := by decide
theorem test_rdPvVoltageIn_high : answer (exec .rdPvVoltageIn (valid [(29, 0x11#8), (30, 0xFF#8), (31, 0xFF#8), (32, 0x22#8)])) = some (.ok { raw := 65535#32, ipart := 6553#23, fpart := 5#10, known := true }) := by decide
theorem test_rdBatteryVoltage : answer (exec .rdBatteryVoltage (valid [(31, 0x11#8), (32, 0x14#8), (33, 0xC0#8), (34, 0x22#8)])) = some (.ok { raw := 5312#32, ipart := 53#23, fpart := 12#10, known := true }) := by decide
theorem test_rdBatteryVoltage_high : answer (exec .rdBatteryVoltage (valid [(31, 0x11#8), (32, 0xFF#8), (33, 0xFF#8), (34, 0x22#8)])) = some (.ok { raw := 65535#32, ipart := 655#23, fpart := 35#10, known := true }) := by decide
theorem test_rdChargingCurrent : answer (exec .rdChargingCurrent (valid [(33, 0x11#8), (34, 0x03#8), (35, 0xEB#8), (36, 0x22#8)])) = some (.ok { raw := 1003#32, ipart := 10#23, fpart := 3#10, known := true }) := by decide
theorem test_rdChargingCurrent_high : answer (exec .rdChargingCurrent (valid [(33, 0x11#8), (34, 0xFF#8), (35, 0xFF#8), (36, 0x22#8)])) = some (.ok { raw := 65535#32, ipart := 655#23, fpart := 35#10, known := true }) := by decide
theorem test_rdInternalTemperature : answer (exec .rdInternalTemperature (valid [(35, 0x11#8), (36, 0x01#8), (37, 0x64#8), (38, 0x22#8)])) = some (.ok { raw := 356#32, ipart := 35#23, fpart := 6#10, known := true }) := by decide
theorem test_rdInternalTemperature_high : answer (exec .rdInternalTemperature (valid [(35, 0x11#8), (36, 0xFF#8), (37, 0xF6#8), (38, 0x22#8)])) = some (.ok { raw := 65526#32, ipart := 6552#23, fpart := 6#10, known := true }) := by decide
theorem test_rdExternalTemperature : answer (exec .rdExternalTemperature (valid [(39, 0x11#8), (41, 0xFB#8), (42, 0x22#8)])) = some (.ok { raw := 251#32, ipart := 25#23, fpart := 1#10, known := true }) := by decide
theorem test_rdExternalTemperature_high : answer (exec .rdExternalTemperature (valid [(39, 0x11#8), (40, 0xFF#8), (41, 0xFF#8), (42, 0x22#8)])) = some (.ok { raw := 65535#32, ipart := 6553#23, fpart := 5#10, known := true }) := by decide
theorem test_rdEnergyToday : answer (exec .rdEnergyToday (valid [(43, 0x11#8), (46, 0x30#8), (47, 0x39#8), (48, 0x22#8)])) = some (.ok { raw := 12345#32, ipart := 12#23, fpart := 345#10, known := true }) := by decide
theorem test_rdEnergyToday_high : answer (exec .rdEnergyToday (valid [(43, 0x11#8), (44, 0xFF#8), (45, 0xFF#8), (46, 0xFF#8), (47, 0xFF#8), (48, 0x22#8)])) = some (.ok { raw := 4294967295#32, ipart := 4294967#23, fpart := 295#10, known := true }) := by decide
theorem test_rdTotalEnergyGenerated : answer (exec .rdTotalEnergyGenerated (valid [(47, 0x11#8), (48, 0x07#8), (49, 0x5B#8), (50, 0xCD#8), (51, 0x15#8), (52, 0x22#8)])) = some (.ok { raw := 123456789#32, ipart := 123456#23, fpart := 789#10, known := true }) := by decide
theorem test_rdTotalEnergyGenerated_high : answer (exec .rdTotalEnergyGenerated (valid [(47, 0x11#8), (48, 0xFF#8), (49, 0xFF#8), (50, 0xFF#8), (51, 0xFF#8), (52, 0x22#8)])) = some (.ok { raw := 4294967295#32, ipart := 4294967#23, fpart := 295#10, known := true }) := by decide

-- ---------------------------------------------------------------- the step, the functions, the text

-- an illegal word changes nothing but the answer [7]; a gated read at reset [5]
theorem test_step_illegal : step ((valid []).withFetchWord 24 0x801234) = .next { valid [] with resp := some .illegalOp } := rfl
theorem test_step_gate : step (State.reset.withFetchWord 24 0x400000) = .next { State.reset with resp := some .notValid } := rfl
-- [3]
theorem test_csum8 : csum8 [0xFF#8, 0x01#8] = 0x00#8 ∧ csum8 [0x01#8, 0x02#8, 0x03#8] = 0x06#8 := by decide
-- [4]: 92 zero bytes, and the all-zero frame
set_option maxRecDepth 2000 in
theorem test_validate : validate (List.replicate 92 0#8) = .lengthError ∧
    validate (List.replicate 93 0#8) = .valid (List.replicate 93 0#8) := by decide
-- [5]: the byte values 0x82, 0x13 and 0xC8
theorem test_flags : statusFlags 0x82 = #v[false, true, false, false, false, false, false, true] ∧
    controlFlags 0x13 = ⟨true, true, false, true, false⟩ ∧ controlFlags 0xC8 = ⟨false, false, false, false, false⟩ := by decide
-- R140's example
theorem test_numeral : (scaledValue 100 1003).numeral = "10.03".toList := by decide
-- R76's examples, a comment, and the pseudo-operations of R77
theorem test_assembleLine : assembleLine "BUILDCMD 0x01, 0xB1 ; query".toList = some [.buildcmd 0x01#8 0xB1#8] ∧
    assembleLine "RDBYTE 92".toList = some [.rdbyte 92#8] ∧ assembleLine "; nothing".toList = some [] := by decide
theorem test_assemble_pseudo : assembleLine "FRAME 0x01 177".toList = some [.clear, .push 0x01#8, .push 0xB1#8, .endFrame] ∧
    assembleLine "READALL".toList = some readAll := by decide
theorem test_assembleLine_refuses : assembleLine "PUSH 256".toList = none ∧ assembleLine "NOP 1".toList = none ∧
    assembleLine "RD.voltage".toList = none := by decide

-- ---------------------------------------------------------------- witnesses of the statements' hypotheses

/-- A `VALID` state with the all-zero frame. -/
def zeroValid : State := at_ .valid 93 0#8 []

theorem witness_PushStoresAddsAndCounts :
    (at_ .valid 93 0#8 []).status ≠ .recv ∧
    triple (exec (.push 1#8) (at_ .recv 91 0#8 [])) = some (.recv, 92, 1) ∧
    triple (exec (.push 1#8) (at_ .recv 92 0#8 [])) = some (.recv, 93, 0) ∧
    triple (exec (.push 1#8) (at_ .recv 93 0#8 [])) = some (.recv, 94, 0) ∧
    triple (exec (.push 1#8) (at_ .recv 94 0#8 [])) = some (.recv, 94, 0) := by decide

theorem witness_EndJudgesFrame :
    (at_ .errLength 5 0#8 []).status ≠ .recv ∧
    ((at_ .recv 92 0#8 []).status = .recv ∧ (at_ .recv 92 0#8 []).cnt.toNat ≠ 93) ∧
    ((at_ .recv 94 0#8 []).status = .recv ∧ (at_ .recv 94 0#8 []).cnt.toNat ≠ 93) ∧
    ((at_ .recv 93 1#8 []).cnt.toNat = 93 ∧ (at_ .recv 93 1#8 []).acc ≠ (at_ .recv 93 1#8 []).fb.read 92) ∧
    ((at_ .recv 93 0#8 []).cnt.toNat = 93 ∧ (at_ .recv 93 0#8 []).acc = (at_ .recv 93 0#8 []).fb.read 92) := by decide

theorem witness_RdbyteAnswersByte :
    (at_ .recv 0 0#8 []).status ≠ .valid ∧ zeroValid.status = .valid ∧ (92#8 : Byte).toNat ≤ 92 ∧ 92 < (93#8 : Byte).toNat := by decide

/-- The one hypothesis of the thirteen statements about reads in `VALID`. -/
theorem witness_reads_in_VALID : zeroValid.status = .valid := rfl

theorem witness_KnownIsZeroWithoutField :
    isRead .rdstat = false ∧ answer (exec .rdstat zeroValid) = some (.ok { raw := 0x0DD00#32 }) := by decide

theorem witness_ScaledReadsLoseNothing :
    fieldOf .rdEnergyToday = some .energyToday ∧ Field.energyToday.kind = .scaled 1000 .kilowattHour ∧ zeroValid.status = .valid := by decide

theorem witness_ScaledTripleDenotesQuotient : 0 < 1000 := by decide

theorem witness_GateRefusesEveryRead : isRead .rdBaudRate = true ∧ State.reset.status ≠ .valid := by decide

theorem witness_EachRegisterHasItsWriters :
    exec .endFrame (at_ .recv 93 0#8 []) = .next { zeroValid with resp := some (.ok {}) } ∧
    (∀ b, Instr.endFrame ≠ .push b) ∧ Instr.endFrame ≠ .clear ∧ Instr.nop ≠ .endFrame := ⟨rfl, by simp, by simp, by simp⟩

theorem witness_ReadsAreIdempotent : Instr.rdstat ≠ .clear ∧ Instr.rdstat ≠ .endFrame ∧ ∀ b, Instr.rdstat ≠ .push b := by simp

theorem witness_VerdictStandsUntilClear :
    zeroValid.status ≠ .recv ∧ Instr.clear ∉ [.push 0#8, .endFrame, .rdBatteryVoltage] := by decide

theorem witness_StatusTransitionTable :
    exec .endFrame (at_ .recv 93 0#8 []) = .next { zeroValid with resp := some (.ok {}) } ∧
    zeroValid.status ≠ (at_ .recv 93 0#8 []).status := ⟨rfl, by decide⟩

theorem witness_ReadsDependOnTheirBytesOnly :
    isRead .rdPvVoltageIn = true ∧ (valid [(30, 4#8), (90, 1#8)]).status = .valid ∧ (valid [(30, 4#8)]).status = .valid ∧
    (∀ a ∈ footprint .rdPvVoltageIn, (valid [(30, 4#8), (90, 1#8)]).fb.read a = (valid [(30, 4#8)]).fb.read a) ∧
    valid [(30, 4#8), (90, 1#8)] ≠ valid [(30, 4#8)] := by decide

theorem witness_StepRunsDecodedOperation :
    (zeroValid.withFetchWord 24 0x040000).issued = 0x040000#24 :: [] ∧ decode 0x040000#24 = .ok .rdstat := ⟨rfl, rfl⟩

theorem witness_ReservedWordAnswersIllegalOp :
    (zeroValid.withFetchWord 24 0x4C0000).issued = 0x4C0000#24 :: [] ∧ reservedOp (opOf 0x4C0000#24) = true := by decide

theorem witness_StepWithNothingIssuedStutters : State.reset.issued = [] := rfl

theorem witness_EveryStepCompletesAndIssuedWordIsAnswered : (zeroValid.withFetchWord 24 0).issued ≠ [] := by decide

theorem witness_FirstConditionIsReported :
    reservedOp (opOf 0x5E0000#24) = true ∧ opOf 0x020000#24 = 0x02#8 ∧ opOf 0x030000#24 = 0x03#8 ∧
    (0x40 ≤ (opOf 0x5D0000#24).toNat ∧ reservedOp (opOf 0x5D0000#24) = false) ∧
    (opOf 0x065D00#24 = 0x06#8 ∧ 92 < (operandA 0x065D00#24).toNat) ∧ zeroValid.status ≠ .recv ∧
    State.reset.status ≠ .valid ∧ (at_ .recv 94 0#8 []).cnt.toNat ≠ 93 ∧
    ((at_ .recv 93 1#8 []).cnt.toNat = 93 ∧ (at_ .recv 93 1#8 []).acc ≠ (at_ .recv 93 1#8 []).fb.read 92) := by decide

theorem witness_ResetIsSound : (⟨[(3, 5#8), (92, 1#8)]⟩ : Memory).wf = true := by decide

/-- The first byte of a frame has been received and the host has issued `PUSH 0x07`; what an earlier frame left in `FB`
is `old`. -/
def afterOneByte (old : List Host.Cell) : State :=
  { at_ .recv 1 0x05#8 ((0, 0x05#8) :: old) with issued := [0x020700#24] }

theorem sound_afterOneByte : Sound (afterOneByte []) :=
  ⟨by decide, by decide, by decide, by decide, by decide, by decide, by decide, by decide, by decide⟩

theorem sound_afterOneByte_old : Sound (afterOneByte [(40, 0x77#8)]) :=
  ⟨by decide, by decide, by decide, by decide, by decide, by decide, by decide, by decide, by decide⟩

theorem witness_StepKeepsSound :
    Sound (afterOneByte []) ∧
    step (afterOneByte []) = .next { at_ .recv 2 0x0C#8 [(0, 0x05#8), (1, 0x07#8)] with resp := some (.ok {}) } :=
  ⟨sound_afterOneByte, rfl⟩

theorem witness_StepKeepsSameToHost :
    Sound (afterOneByte []) ∧ Sound (afterOneByte [(40, 0x77#8)]) ∧
    SameToHost (afterOneByte []) (afterOneByte [(40, 0x77#8)]) ∧ afterOneByte [] ≠ afterOneByte [(40, 0x77#8)] :=
  ⟨sound_afterOneByte, sound_afterOneByte_old, ⟨rfl, rfl, rfl, rfl, rfl, rfl, by decide⟩, by decide⟩

theorem witness_ClearHidesThePast : zeroValid.cmdPad = State.reset.cmdPad ∧ zeroValid.issued = State.reset.issued := ⟨rfl, rfl⟩

theorem witness_ResetContentsUnobservable : (⟨[]⟩ : Memory).wf = true ∧ (⟨[(7, 1#8)]⟩ : Memory).wf = true := by decide

theorem witness_ValidateByLengthAndChecksum : (List.replicate 93 (0#8 : Byte)).length = 93 ∧ ([] : List Byte).length ≠ 93 := by decide

theorem witness_InterleavedOperationsKeepVerdict :
    Instr.clear ∉ [.push 1#8, .rdstat, .rdAddress, .push 2#8] ∧ Instr.endFrame ∉ [.push 1#8, .rdstat, .rdAddress, .push 2#8] := by decide

set_option maxRecDepth 2000 in
theorem witness_SingleByteChangeIsCaught :
    validate (List.replicate 93 0#8) = .valid (List.replicate 93 0#8) ∧ 92 < 93 ∧ (1#8 : Byte) ≠ (List.replicate 93 0#8).getD 92 0#8 := by decide

set_option maxRecDepth 4000 in
theorem witness_CancellingChangesAreMissed :
    validate ([1#8, 2#8] ++ List.replicate 90 0#8 ++ [3#8]) = .valid ([1#8, 2#8] ++ List.replicate 90 0#8 ++ [3#8]) ∧
    ([2#8, 1#8] ++ List.replicate 90 (0#8 : Byte) ++ [3#8]).length = 93 ∧
    (([2#8, 1#8] ++ List.replicate 90 (0#8 : Byte) ++ [3#8]).take 92).Perm (([1#8, 2#8] ++ List.replicate 90 0#8 ++ [3#8]).take 92) ∧
    ([2#8, 1#8] ++ List.replicate 90 (0#8 : Byte) ++ [3#8]).getD 92 0#8 = ([1#8, 2#8] ++ List.replicate 90 (0#8 : Byte) ++ [3#8]).getD 92 0#8 ∧
    0 < 92 ∧ 91 < 92 ∧ 0 ≠ 91 :=
  ⟨by decide, by decide, List.Perm.append_right _ (List.Perm.swap _ _ []), by decide, by decide, by decide, by decide⟩

set_option maxRecDepth 4000 in
/-- R102's own example: one byte of 0..91 and byte 92 both up by 1 (from the second frame to the first, byte 0 wrapping); then
a third change that does not cancel. -/
theorem test_changes_cancel_or_not :
    validate ([0#8, 2#8] ++ List.replicate 90 0#8 ++ [2#8]) = .valid ([0#8, 2#8] ++ List.replicate 90 0#8 ++ [2#8]) ∧
    validate ([255#8, 2#8] ++ List.replicate 90 0#8 ++ [1#8]) = .valid ([255#8, 2#8] ++ List.replicate 90 0#8 ++ [1#8]) ∧
    validate ([255#8, 3#8] ++ List.replicate 90 0#8 ++ [1#8]) = .checksumError := by decide

theorem witness_InstancesShareNothing : (0 : Fin 2) ≠ 1 := by decide

/-- Each code of R170 that an operation answers, in a state and with an operation that its clause is about. -/
theorem witness_ResponseCodesAreRaisedBy :
    (exec .endFrame (at_ .recv 92 0#8 []) = .next { at_ .errLength 92 0#8 [] with resp := some .lengthError } ∧ Response.lengthError.rc = 1#4) ∧
    (exec .endFrame (at_ .recv 93 1#8 []) = .next { at_ .errChecksum 93 1#8 [] with resp := some .checksumError } ∧
      Response.checksumError.rc = 2#4) ∧
    (exec (.rdbyte 255#8) State.reset = .next { State.reset with resp := some .notValid } ∧ Response.notValid.rc = 3#4) ∧
    (exec (.push 1#8) zeroValid = .next { zeroValid with resp := some .notReceiving } ∧
      exec .endFrame zeroValid = .next { zeroValid with resp := some .notReceiving } ∧ Response.notReceiving.rc = 4#4) ∧
    (exec (.rdbyte 93#8) zeroValid = .next { zeroValid with resp := some .indexRange } ∧ Response.indexRange.rc = 6#4) :=
  ⟨⟨rfl, rfl⟩, ⟨rfl, rfl⟩, ⟨rfl, rfl⟩, ⟨rfl, rfl, rfl⟩, rfl, rfl⟩

end Sys2Proof.Tests
end

-- ---------------------------------------------------------------- the six operations that are no reads

namespace Sys2Proof.Proofs

open Sys2Proof.Machine

theorem exec_nop (s : State) : exec .nop s = .next (s.respond (.ok {})) := rfl

theorem exec_clear (s : State) : exec .clear s = .next s.startFrame := rfl

theorem exec_rdstat (s : State) :
    exec .rdstat s = .next (s.respond (.ok { raw := zext32 (statusWord s.status s.cnt s.acc) })) := rfl

theorem exec_buildcmd (a f : Byte) (s : State) :
    exec (.buildcmd a f) s = .next (s.respond (.ok { cmd := buildCommand s.cmdPad a f })) := rfl

/-- R95 in `RECV`, with the store as the one conditional it leaves. -/
theorem exec_push_of_recv (b : Byte) {s : State} (hs : s.status = .recv) :
    exec (.push b) s = .next { s with
      fb := if s.cnt.toNat ≤ Config.csumIdx then s.fb.write s.cnt.toNat b else s.fb
      acc := accAfterPush s.cnt s.acc b
      cnt := cntAfterPush s.cnt
      resp := some (.ok {}) } := by
  rw [exec, execPush, whileReceiving, if_pos hs, storeIncoming_eq]

theorem exec_push_of_ne_recv (b : Byte) {s : State} (hs : s.status ≠ .recv) :
    exec (.push b) s = .next (s.refuse .notReceiving) := by
  rw [exec, execPush, whileReceiving, if_neg hs]

/-- R96 in `RECV`: the verdict on the byte at address 92, which the frame space holds. -/
theorem exec_endFrame_of_recv {s : State} (hs : s.status = .recv) :
    exec .endFrame s = .next (s.conclude (judge s.cnt s.acc (s.fb.read Config.csumIdx).toNat)) := by
  have hinside : Config.csumIdx + 1 ≤ Config.frameLen := by decide
  rw [exec, execEndFrame, whileReceiving, if_pos hs, memRead_of_le hinside, Memory.bigEndian_bytes_one]

theorem exec_endFrame_of_ne_recv {s : State} (hs : s.status ≠ .recv) :
    exec .endFrame s = .next (s.refuse .notReceiving) := by
  rw [exec, execEndFrame, whileReceiving, if_neg hs]

/-- The operations that read no frame contents are the six of class 0 other than `RDBYTE` (R26, R125). -/
theorem isRead_eq_false_iff {i : Instr} :
    isRead i = false ↔ i = .nop ∨ i = .clear ∨ (∃ b, i = .push b) ∨ i = .endFrame ∨ i = .rdstat ∨
      ∃ a f, i = .buildcmd a f := by
  cases i <;> simp [isRead, frameRange]

-- ---------------------------------------------------------------- `known` in their answers

/-- A response that carries data has `known = 0`; one with `rc ≠ OK` carries none (R28). -/
def KnownZero (r : Response) : Prop := ∀ d, r = .ok d → d.known = false

theorem knownZero_ok {d : RespData} : KnownZero (.ok d) ↔ d.known = false := by
  simp [KnownZero]

theorem knownZero_notReceiving : KnownZero .notReceiving := by
  simp [KnownZero]

/-- Only the verdict `valid` answers OK, and with every field at 0 (R96, R12). -/
theorem knownZero_verdict (v : Verdict) : KnownZero v.response := by
  cases v <;> simp [KnownZero, Verdict.response]

/-- An operation that is no read goes on with an answer whose `known` is 0. -/
theorem exec_not_read_answers_knownZero {i : Instr} (s : State) (hi : isRead i = false) :
    ∃ t r, exec i s = .next t ∧ t.resp = some r ∧ KnownZero r := by
  obtain rfl | rfl | ⟨b, rfl⟩ | rfl | rfl | ⟨a, f, rfl⟩ := isRead_eq_false_iff.mp hi
  · exact ⟨_, _, exec_nop s, rfl, knownZero_ok.mpr rfl⟩
  · exact ⟨_, _, exec_clear s, rfl, knownZero_ok.mpr rfl⟩
  · by_cases hs : s.status = .recv
    · exact ⟨_, _, exec_push_of_recv b hs, rfl, knownZero_ok.mpr rfl⟩
    · exact ⟨_, _, exec_push_of_ne_recv b hs, rfl, knownZero_notReceiving⟩
  · by_cases hs : s.status = .recv
    · exact ⟨_, _, exec_endFrame_of_recv hs, rfl, knownZero_verdict _⟩
    · exact ⟨_, _, exec_endFrame_of_ne_recv hs, rfl, knownZero_notReceiving⟩
  · exact ⟨_, _, exec_rdstat s, rfl, knownZero_ok.mpr rfl⟩
  · exact ⟨_, _, exec_buildcmd a f s, rfl, knownZero_ok.mpr rfl⟩

/-- Settles O8: the operation's only next state is the one whose answer has `known = 0`. -/
theorem knownIsZeroWithoutField : Obligations.KnownIsZeroWithoutField := by
  intro i s t d hi hexec hresp
  obtain ⟨u, r, hu, hr, hknown⟩ := exec_not_read_answers_knownZero s hi
  obtain rfl : u = t := by simpa [hu] using hexec
  exact hknown d (by simpa [hr] using hresp)

end Sys2Proof.Proofs

-- ---------------------------------------------------------------- the reads of frame contents

namespace Sys2Proof.Proofs

open Sys2Proof.Machine

/-- One more byte of a range of the frame buffer stands at its end. -/
theorem bytes_succ (m : Memory) (lo n : Nat) : m.bytes lo (n + 1) = m.bytes lo n ++ [m.read (lo + n)] := by
  simp [Memory.bytes, List.range_succ]

/-- Two frame buffers that read alike at every address of a range hold the same bytes there. -/
theorem bytes_congr {m m' : Memory} {lo n : Nat} (h : ∀ j < n, m.read (lo + j) = m'.read (lo + j)) :
    m.bytes lo n = m'.bytes lo n :=
  List.map_congr_left fun j hj => h j (List.mem_range.mp hj)

/-- An operation with a field (R62): the field is a row of the table, its bytes are the operation's footprint, and the
operation is the read of it. -/
theorem fieldOf_eq_some {i : Instr} {f : Field} (h : fieldOf i = some f) :
    f ∈ fieldTable ∧ footprint i = (List.range f.n).map (f.lo + ·) ∧ ∀ s, exec i s = readField f s := by
  cases i <;> simp only [fieldOf, Option.some.injEq, reduceCtorEq] at h <;> subst h <;>
    exact ⟨by decide, rfl, fun _ => rfl⟩

/-- The reads are `RDBYTE` and the operations that have a field (R26, R125). -/
theorem isRead_iff {i : Instr} : isRead i = true ↔ (∃ a, i = .rdbyte a) ∨ ∃ f, fieldOf i = some f := by
  cases i <;> simp [isRead, frameRange, fieldOf]

/-- `RD.<field>` (R125, R141): the field's bytes as its kind presents them, behind the gate. -/
theorem exec_eq_of_fieldOf {i : Instr} {f : Field} (h : fieldOf i = some f) (s : State) :
    exec i s = .next (s.respond
      (if s.status = .valid then .ok (f.kind.present (bigEndian (s.fb.bytes f.lo f.n))) else .notValid)) := by
  obtain ⟨htable, _, hexec⟩ := fieldOf_eq_some h
  rw [hexec, readField_eq s htable]

/-- `RDBYTE` (R112, R179): the gate, then the index, then the byte. -/
theorem exec_rdbyte (a : Byte) (s : State) :
    exec (.rdbyte a) s = .next (s.respond
      (if s.status = .valid then
        if a.toNat ≤ Config.csumIdx then .ok (rawData (s.fb.read a.toNat).toNat) else .indexRange
      else .notValid)) := by
  change execRdbyte a s = _
  by_cases ha : a.toNat ≤ Config.csumIdx
  · have hinside : a.toNat + 1 ≤ Config.frameLen := Nat.succ_le_succ ha
    simp [execRdbyte, ha, readFrame_eq s hinside, Memory.bigEndian_bytes_one]
  · by_cases hs : s.status = .valid <;> simp [execRdbyte, ha, whileValid, hs, State.refuse]

/-- A read changes nothing but the answer, and in `VALID` the answer depends on the bytes of its footprint that lie in
the frame space, and on nothing else (R111, R158). -/
theorem exec_read_agree {i : Instr} {s t : State} (hi : isRead i = true) (hstatus : s.status = t.status)
    (hbytes : s.status = .valid → ∀ a ∈ footprint i, a < Config.frameLen → s.fb.read a = t.fb.read a) :
    ∃ r, exec i s = .next (s.respond r) ∧ exec i t = .next (t.respond r) := by
  by_cases hvalid : s.status = .valid
  · have hvalid' : t.status = .valid := hstatus ▸ hvalid
    have hbytes := hbytes hvalid
    obtain ⟨a, rfl⟩ | ⟨f, hf⟩ := isRead_iff.mp hi
    · by_cases ha : a.toNat ≤ Config.csumIdx
      · have hread : s.fb.read a.toNat = t.fb.read a.toNat :=
          hbytes a.toNat (by simp [footprint, frameRange]) (Nat.lt_succ_of_le ha)
        exact ⟨_, exec_rdbyte a s, by simp [exec_rdbyte, hvalid, hvalid', hread]⟩
      · exact ⟨_, exec_rdbyte a s, by simp [exec_rdbyte, hvalid, hvalid', ha]⟩
    · obtain ⟨htable, hfootprint, _⟩ := fieldOf_eq_some hf
      have hinside := fieldTable_inside f htable
      have hfield : s.fb.bytes f.lo f.n = t.fb.bytes f.lo f.n := bytes_congr fun j hj =>
        hbytes (f.lo + j) (by simpa [hfootprint] using hj) (by omega)
      exact ⟨_, exec_eq_of_fieldOf hf s, by simp [exec_eq_of_fieldOf hf, hvalid, hvalid', hfield]⟩
  · have hvalid' : t.status ≠ .valid := hstatus ▸ hvalid
    refine ⟨.notValid, ?_⟩
    obtain ⟨a, rfl⟩ | ⟨f, hf⟩ := isRead_iff.mp hi
    · simp [exec_rdbyte, hvalid, hvalid']
    · simp [exec_eq_of_fieldOf hf, hvalid, hvalid']

end Sys2Proof.Proofs

-- ---------------------------------------------------------------- everything an operation can do

namespace Sys2Proof.Proofs

open Sys2Proof.Machine

/-- The state after a `PUSH` of `b` in `RECV` (R95). -/
def pushed (s : State) (b : Byte) : State :=
  { s with
    fb := if s.cnt.toNat ≤ Config.csumIdx then s.fb.write s.cnt.toNat b else s.fb
    acc := accAfterPush s.cnt s.acc b
    cnt := cntAfterPush s.cnt
    resp := some (.ok {}) }

@[simp] theorem pushed_cnt (s : State) (b : Byte) : (pushed s b).cnt = cntAfterPush s.cnt := rfl
@[simp] theorem pushed_acc (s : State) (b : Byte) : (pushed s b).acc = accAfterPush s.cnt s.acc b := rfl
@[simp] theorem pushed_status (s : State) (b : Byte) : (pushed s b).status = s.status := rfl
@[simp] theorem pushed_cmdPad (s : State) (b : Byte) : (pushed s b).cmdPad = s.cmdPad := rfl
@[simp] theorem pushed_issued (s : State) (b : Byte) : (pushed s b).issued = s.issued := rfl
@[simp] theorem pushed_resp (s : State) (b : Byte) : (pushed s b).resp = some (.ok {}) := rfl

theorem pushed_fb_of_le {s : State} (b : Byte) (h : s.cnt.toNat ≤ Config.csumIdx) :
    (pushed s b).fb = s.fb.write s.cnt.toNat b := if_pos h

theorem pushed_fb_of_not_le {s : State} (b : Byte) (h : ¬ s.cnt.toNat ≤ Config.csumIdx) : (pushed s b).fb = s.fb :=
  if_neg h

/-- Every address of `FB` after a `PUSH` (R95). -/
theorem pushed_read (s : State) (b : Byte) (a : Nat) :
    (pushed s b).fb.read a = if a = s.cnt.toNat ∧ s.cnt.toNat ≤ Config.csumIdx then b else s.fb.read a := by
  by_cases h : s.cnt.toNat ≤ Config.csumIdx
  · simp [pushed_fb_of_le b h, Memory.read_write, h]
  · simp [pushed_fb_of_not_le b h, h]

/-- What one operation does to the state it finds: one of the four shared updates. -/
inductive Effect where
  /-- nothing but an answer -/
  | answer (r : Response)
  /-- the start of a new frame (R94) -/
  | start
  /-- the receipt of a byte (R95) -/
  | receive (b : Byte)
  /-- the record of a verdict (R96) -/
  | conclude (v : Verdict)

/-- The state after an effect. -/
def Effect.apply : Effect → State → State
  | .answer r, s => s.respond r
  | .start, s => s.startFrame
  | .receive b, s => pushed s b
  | .conclude v, s => s.conclude v

/-- Which operation has which effect, and in which status (R94 to R96): every other effect is an answer. -/
inductive Performs (s : State) : Instr → Effect → Prop
  | answer (i : Instr) (r : Response) : Performs s i (.answer r)
  | start : Performs s .clear .start
  | receive (b : Byte) (hs : s.status = .recv) : Performs s (.push b) (.receive b)
  | conclude (hs : s.status = .recv) :
      Performs s .endFrame (.conclude (judge s.cnt s.acc (s.fb.read Config.csumIdx).toNat))

/-- Two states that agree on all that an operation can see: the registers, `CMD_PAD`, in `VALID` the whole frame, and in
`RECV` the last byte of a frame of full length. -/
structure SeesSame (s t : State) : Prop where
  cnt      : s.cnt = t.cnt
  acc      : s.acc = t.acc
  status   : s.status = t.status
  cmdPad   : s.cmdPad = t.cmdPad
  frame    : s.status = .valid → ∀ a < Config.frameLen, s.fb.read a = t.fb.read a
  received : s.cnt.toNat = Config.frameLen → s.status = .recv → s.fb.read Config.csumIdx = t.fb.read Config.csumIdx

theorem seesSame_refl (s : State) : SeesSame s s :=
  ⟨rfl, rfl, rfl, rfl, fun _ _ _ => rfl, fun _ _ => rfl⟩

/-- The verdict is the same, for it looks at byte 92 only when the length is right (R96). -/
theorem judge_eq_of_seesSame {s t : State} (h : SeesSame s t) (hs : s.status = .recv) :
    judge s.cnt s.acc (s.fb.read Config.csumIdx).toNat = judge t.cnt t.acc (t.fb.read Config.csumIdx).toNat := by
  rw [← h.cnt, ← h.acc]
  by_cases hc : s.cnt.toNat = Config.frameLen
  · rw [h.received hc hs]
  · simp [judge, hc]

/-- In states an operation cannot tell apart it always goes on, and with the same effect. -/
theorem exec_effect_agree {s t : State} (i : Instr) (h : SeesSame s t) :
    ∃ e, Performs s i e ∧ exec i s = .next (e.apply s) ∧ exec i t = .next (e.apply t) := by
  by_cases hi : isRead i = true
  · obtain ⟨r, hs, ht⟩ := exec_read_agree hi h.status fun hv a _ ha => h.frame hv a ha
    exact ⟨.answer r, .answer i r, hs, ht⟩
  · obtain rfl | rfl | ⟨b, rfl⟩ | rfl | rfl | ⟨a, f, rfl⟩ := isRead_eq_false_iff.mp (Bool.not_eq_true _ ▸ hi)
    · exact ⟨_, .answer .nop (.ok {}), exec_nop s, exec_nop t⟩
    · exact ⟨_, .start, exec_clear s, exec_clear t⟩
    · by_cases hs : s.status = .recv
      · exact ⟨_, .receive b hs, exec_push_of_recv b hs, exec_push_of_recv b (h.status ▸ hs)⟩
      · exact ⟨_, .answer _ .notReceiving, exec_push_of_ne_recv b hs, exec_push_of_ne_recv b (h.status ▸ hs)⟩
    · by_cases hs : s.status = .recv
      · refine ⟨_, .conclude hs, exec_endFrame_of_recv hs, ?_⟩
        rw [judge_eq_of_seesSame h hs]
        exact exec_endFrame_of_recv (h.status ▸ hs)
      · exact ⟨_, .answer _ .notReceiving, exec_endFrame_of_ne_recv hs, exec_endFrame_of_ne_recv (h.status ▸ hs)⟩
    · refine ⟨_, .answer _ _, exec_rdstat s, ?_⟩
      rw [h.status, h.cnt, h.acc]
      exact exec_rdstat t
    · refine ⟨_, .answer _ _, exec_buildcmd a f s, ?_⟩
      rw [h.cmdPad]
      exact exec_buildcmd a f t

/-- Every operation goes on from every state, with one of its effects. -/
theorem exec_effect (i : Instr) (s : State) : ∃ e, Performs s i e ∧ exec i s = .next (e.apply s) := by
  obtain ⟨e, he, hs, _⟩ := exec_effect_agree i (seesSame_refl s)
  exact ⟨e, he, hs⟩

/-- Inversion: the state an operation leads to is the one of an effect of it. -/
theorem effect_of_exec {i : Instr} {s t : State} (h : exec i s = .next t) : ∃ e, Performs s i e ∧ t = e.apply s := by
  obtain ⟨e, he, hs⟩ := exec_effect i s
  exact ⟨e, he, Host.Outcome.next.inj (h.symm.trans hs)⟩

end Sys2Proof.Proofs

-- ---------------------------------------------------------------- which operation writes what, and what it reads

namespace Sys2Proof.Proofs

open Sys2Proof.Machine

/-- The next state always carries an answer. -/
theorem effect_resp_isSome (e : Effect) (s : State) : (e.apply s).resp.isSome = true := by
  cases e <;> rfl

/-- Settles O23: each effect writes its registers only, and belongs to the operations named. -/
theorem eachRegisterHasItsWriters : Obligations.EachRegisterHasItsWriters := by
  intro i s t hexec
  obtain ⟨e, he, rfl⟩ := effect_of_exec hexec
  have hresp := effect_resp_isSome e s
  cases he with
  | answer i r =>
    exact ⟨fun _ => ⟨rfl, fun _ => rfl⟩, fun _ _ => ⟨rfl, rfl⟩, fun _ _ => rfl, rfl, rfl, hresp⟩
  | start =>
    exact ⟨fun _ => ⟨rfl, fun _ => rfl⟩, fun _ hclear => absurd rfl hclear,
      fun _ hclear => absurd rfl hclear, rfl, rfl, hresp⟩
  | receive b hs =>
    exact ⟨fun hpush => absurd rfl (hpush b), fun hpush => absurd rfl (hpush b), fun _ _ => rfl, rfl, rfl, hresp⟩
  | conclude hs =>
    exact ⟨fun _ => ⟨rfl, fun _ => rfl⟩, fun _ _ => ⟨rfl, rfl⟩, fun hend => absurd rfl hend, rfl, rfl, hresp⟩

/-- No effect reads the model's own fields, and each writes the answer and keeps the words still issued. -/
theorem effect_apply_modelFields (e : Effect) (s : State) (r : Option Response) (ws : List Hop) :
    e.apply { s with resp := r, issued := ws } = { e.apply s with issued := ws } := by
  cases e <;> rfl

/-- Settles O25: states that differ in the model's own fields look the same to every operation. -/
theorem modelFieldsTakeNoPart : Obligations.ModelFieldsTakeNoPart := by
  intro i s r ws
  have hsame : SeesSame s { s with resp := r, issued := ws } := ⟨rfl, rfl, rfl, rfl, fun _ _ _ => rfl, fun _ _ => rfl⟩
  obtain ⟨e, _, hs, ht⟩ := exec_effect_agree i hsame
  exact ⟨e.apply s, hs, by rw [ht, effect_apply_modelFields]⟩

/-- R30: once a verdict stands, an operation other than `CLEAR` only answers. -/
theorem exec_answers_of_ne_recv {i : Instr} {s : State} (hs : s.status ≠ .recv) (hi : i ≠ .clear) :
    ∃ r, exec i s = .next (s.respond r) := by
  obtain ⟨e, he, hexec⟩ := exec_effect i s
  cases he with
  | answer i r => exact ⟨r, hexec⟩
  | start => exact absurd rfl hi
  | receive b hrecv => exact absurd hrecv hs
  | conclude hrecv => exact absurd hrecv hs

/-- Settles O26, by induction on the sequence. -/
theorem verdictStandsUntilClear : Obligations.VerdictStandsUntilClear := by
  intro ops
  induction ops with
  | nil => exact fun s _ _ => ⟨s.resp, rfl⟩
  | cons i rest ih =>
    intro s hs hclear
    obtain ⟨hi, hrest⟩ := not_or.mp (List.mem_cons.not.mp hclear)
    obtain ⟨r, hexec⟩ := exec_answers_of_ne_recv hs (Ne.symm hi)
    obtain ⟨r', hseq⟩ := ih (s.respond r) hs hrest
    exact ⟨r', by rw [execSeq_cons hexec, hseq]; rfl⟩

end Sys2Proof.Proofs

-- ---------------------------------------------------------------- one step

namespace Sys2Proof.Proofs

open Sys2Proof.Machine

/-- The state once the oldest issued word has been taken from the list (log entry 4). -/
def taken (s : State) (rest : List Hop) : State := { s with issued := rest }

theorem step_of_issued_nil {s : State} (h : s.issued = []) : step s = .next s := by
  simp only [step, h]

theorem step_of_decode_ok {s : State} {w : Hop} {rest : List Hop} {i : Instr} (h : s.issued = w :: rest)
    (hw : decode w = .ok i) : step s = exec i (taken s rest) := by
  simp only [step, h, hw, taken]

theorem step_of_decode_error {s : State} {w : Hop} {rest : List Hop} {err : DecodeError} (h : s.issued = w :: rest)
    (hw : decode w = .error err) : step s = .next ((taken s rest).respond .illegalOp) := by
  simp only [step, h, hw, taken, State.illegalOp, State.refuse]

end Sys2Proof.Proofs

-- ---------------------------------------------------------------- the invariants of R25

namespace Sys2Proof.Proofs

open Sys2Proof.Machine Sys2Proof.Safety

/-- The invariants speak of the four registers of R20 only. -/
theorem sound_of_registers_eq {s t : State} (h : Sound s) (hfb : t.fb = s.fb) (hcnt : t.cnt = s.cnt)
    (hacc : t.acc = s.acc) (hstatus : t.status = s.status) : Sound t := by
  obtain ⟨fb, cnt, acc, status, pad, issued, resp⟩ := t
  subst hfb hcnt hacc hstatus
  exact ⟨h.memory, h.cntRange, h.validCnt, h.validSum, h.validMatch, h.lengthCnt, h.checksumCnt,
    h.checksumBad, h.recvSum⟩

/-- While a frame is received only the clauses on the buffer, the count and the running sum ask anything. -/
theorem sound_of_recv {s : State} (hstatus : s.status = .recv) (hmem : s.fb.wf = true)
    (hcnt : s.cnt.toNat ≤ Config.cntSat) (hsum : s.acc = receivedSum s) : Sound s := by
  obtain ⟨fb, cnt, acc, status, pad, issued, resp⟩ := s
  subst hstatus
  exact ⟨hmem, hcnt, nofun, nofun, nofun, nofun, nofun, nofun, fun _ => hsum⟩

theorem receivedSum_of_cnt_zero {s : State} (h : s.cnt = 0#7) : receivedSum s = 0#8 := by
  simp [receivedSum, h, Memory.bytes]

/-- At the start of a frame nothing has been received. -/
theorem sound_of_frame_start {s : State} (hmem : s.fb.wf = true) (hcnt : s.cnt = 0#7) (hacc : s.acc = 0#8)
    (hstatus : s.status = .recv) : Sound s :=
  sound_of_recv hstatus hmem (by simp [hcnt]) (by rw [hacc, receivedSum_of_cnt_zero hcnt])

/-- `PUSH` keeps what R23 says of `ACC`: bytes 0..91 are added as they are stored, later ones do neither. -/
theorem receivedSum_pushed (s : State) (b : Byte) (h : s.acc = receivedSum s) :
    (pushed s b).acc = receivedSum (pushed s b) := by
  by_cases hc : s.cnt.toNat < Config.sumLen
  · have hacc : (pushed s b).acc = s.acc + b := if_pos (Nat.le_of_lt_succ hc)
    have hmin : min (pushed s b).cnt.toNat Config.sumLen = s.cnt.toNat + 1 := by
      rw [pushed_cnt, cntAfterPush_toNat]; grind
    have hold : (pushed s b).fb.bytes 0 s.cnt.toNat = s.fb.bytes 0 s.cnt.toNat := by
      refine bytes_congr fun j hj => ?_
      rw [pushed_read, if_neg (by omega)]
    have hnew : (pushed s b).fb.read s.cnt.toNat = b := by
      rw [pushed_read, if_pos ⟨rfl, by grind⟩]
    rw [hacc, h, receivedSum, receivedSum, hmin, bytes_succ, hold, Nat.zero_add, hnew, csum8_append_singleton,
      Nat.min_eq_left hc.le]
  · have hacc : (pushed s b).acc = s.acc := if_neg (by grind)
    have hmin : min (pushed s b).cnt.toNat Config.sumLen = min s.cnt.toNat Config.sumLen := by
      rw [pushed_cnt, cntAfterPush_toNat]; grind
    have hold : (pushed s b).fb.bytes 0 (min s.cnt.toNat Config.sumLen) =
        s.fb.bytes 0 (min s.cnt.toNat Config.sumLen) := by
      refine bytes_congr fun j hj => ?_
      rw [pushed_read, if_neg (by grind)]
    rw [hacc, h, receivedSum, receivedSum, hmin, hold]

theorem pushed_fb_wf {s : State} (b : Byte) (h : s.fb.wf = true) : (pushed s b).fb.wf = true := by
  by_cases hc : s.cnt.toNat ≤ Config.csumIdx
  · rw [pushed_fb_of_le b hc]
    exact s.fb.write_wf s.cnt.toNat b h (Nat.lt_succ_of_le hc)
  · rwa [pushed_fb_of_not_le b hc]

theorem sound_pushed {s : State} (b : Byte) (h : Sound s) (hs : s.status = .recv) : Sound (pushed s b) := by
  have hcnt : (pushed s b).cnt.toNat ≤ Config.cntSat := by
    have := h.cntRange
    rw [pushed_cnt, cntAfterPush_toNat]; grind
  exact sound_of_recv hs (pushed_fb_wf b h.memory) hcnt (receivedSum_pushed s b (h.recvSum hs))

/-- `END` records the verdict that the received bytes have (R96), which is what R25 (b) to (d) ask of it. -/
theorem sound_conclude {s : State} (h : Sound s) (hs : s.status = .recv) :
    Sound (s.conclude (judge s.cnt s.acc (s.fb.read Config.csumIdx).toNat)) := by
  obtain ⟨hc, hj⟩ | ⟨hc, ha, hj⟩ | ⟨hc, ha, hj⟩ :=
    judge_cases s.cnt s.acc (s.fb.read Config.csumIdx).toNat <;> rw [hj]
  · exact ⟨h.memory, h.cntRange, nofun, nofun, nofun, fun _ => hc, nofun, nofun, nofun⟩
  · have hbad : s.acc ≠ s.fb.read Config.csumIdx := fun heq => ha (congrArg BitVec.toNat heq)
    exact ⟨h.memory, h.cntRange, nofun, nofun, nofun, nofun, fun _ => hc, fun _ => hbad, nofun⟩
  · have hmatch : s.acc = s.fb.read Config.csumIdx := BitVec.eq_of_toNat_eq ha
    have hmin : min s.cnt.toNat Config.sumLen = Config.sumLen := by rw [hc]; rfl
    have hsum : s.acc = csum8 (s.fb.bytes 0 Config.sumLen) := by rw [h.recvSum hs, receivedSum, hmin]
    exact ⟨h.memory, h.cntRange, fun _ => hc, fun _ => hsum, fun _ => hmatch, nofun, nofun, nofun, nofun⟩

/-- Every effect of an operation keeps the invariants. -/
theorem sound_effect {i : Instr} {e : Effect} {s : State} (h : Sound s) (he : Performs s i e) : Sound (e.apply s) := by
  cases he with
  | answer i r => exact sound_of_registers_eq h rfl rfl rfl rfl
  | start => exact sound_of_frame_start h.memory rfl rfl rfl
  | receive b hs => exact sound_pushed b h hs
  | conclude hs => exact sound_conclude h hs

theorem sound_taken {s : State} (h : Sound s) (rest : List Hop) : Sound (taken s rest) :=
  sound_of_registers_eq h rfl rfl rfl rfl

/-- Settles O42: a step does nothing, only answers, or has an effect of the decoded operation. -/
theorem stepKeepsSound : Obligations.StepKeepsSound := by
  intro s t h hstep
  cases hissued : s.issued with
  | nil =>
    obtain rfl : s = t := by simpa [step_of_issued_nil hissued] using hstep
    exact h
  | cons w rest =>
    cases hw : decode w with
    | ok i =>
      rw [step_of_decode_ok hissued hw] at hstep
      obtain ⟨e, he, rfl⟩ := effect_of_exec hstep
      exact sound_effect (sound_taken h rest) he
    | error err =>
      rw [step_of_decode_error hissued hw] at hstep
      obtain rfl := Host.Outcome.next.inj hstep
      exact sound_of_registers_eq h rfl rfl rfl rfl

theorem sound_resetWith {fb : Memory} (pad : Vector Byte 5) (h : fb.wf = true) : Sound (State.resetWith fb pad) :=
  sound_of_frame_start h rfl rfl rfl

/-- Settles O41: reset is the start of a frame. -/
theorem resetIsSound : Obligations.ResetIsSound :=
  ⟨sound_resetWith Config.defaultCmdPad rfl, fun _ pad h => sound_resetWith pad h⟩

/-- Settles O40. -/
theorem resetValues : Obligations.ResetValues :=
  ⟨fun _ _ => ⟨rfl, rfl, rfl⟩, rfl, rfl, rfl⟩

end Sys2Proof.Proofs

-- ---------------------------------------------------------------- stale cells of FB (R26, R32)

namespace Sys2Proof.Proofs

open Sys2Proof.Machine Sys2Proof.Safety

/-- With 93 bytes received no cell of `FB` is stale. -/
theorem sameToHost_read {s t : State} (h : SameToHost s t) (hc : s.cnt.toNat = Config.frameLen) {a : Nat}
    (ha : a < Config.frameLen) : s.fb.read a = t.fb.read a :=
  h.written a (by rwa [hc, Nat.min_self])

/-- An operation cannot see a stale cell: the gate opens, and `END` looks at byte 92, only with 93
bytes received (R26). -/
theorem seesSame_of_sameToHost {s t : State} (hs : Sound s) (h : SameToHost s t) : SeesSame s t where
  cnt := h.cnt
  acc := h.acc
  status := h.status
  cmdPad := h.cmdPad
  frame := fun hvalid _ ha => sameToHost_read h (hs.validCnt hvalid) ha
  received := fun hc _ => sameToHost_read h hc (by decide)

theorem sameToHost_respond {s t : State} (h : SameToHost s t) (r : Response) : SameToHost (s.respond r) (t.respond r) :=
  ⟨h.cnt, h.acc, h.status, h.cmdPad, h.issued, rfl, h.written⟩

theorem sameToHost_conclude {s t : State} (h : SameToHost s t) (v : Verdict) : SameToHost (s.conclude v) (t.conclude v) :=
  ⟨h.cnt, h.acc, rfl, h.cmdPad, h.issued, rfl, h.written⟩

/-- At the start of a frame every cell is stale. -/
theorem sameToHost_startFrame {s t : State} (hpad : s.cmdPad = t.cmdPad) (hissued : s.issued = t.issued) :
    SameToHost s.startFrame t.startFrame :=
  ⟨rfl, rfl, rfl, hpad, hissued, rfl, by simp⟩

/-- The one cell that a `PUSH` takes from the stale ones holds the same byte in both. -/
theorem sameToHost_pushed {s t : State} (h : SameToHost s t) (b : Byte) : SameToHost (pushed s b) (pushed t b) where
  cnt := by simp [h.cnt]
  acc := by simp [h.cnt, h.acc]
  status := h.status
  cmdPad := h.cmdPad
  issued := h.issued
  resp := rfl
  written := by
    intro a ha
    rw [pushed_cnt, cntAfterPush_toNat] at ha
    rw [pushed_read, pushed_read, ← h.cnt]
    by_cases hnew : a = s.cnt.toNat ∧ s.cnt.toNat ≤ Config.csumIdx
    · rw [if_pos hnew, if_pos hnew]
    · rw [if_neg hnew, if_neg hnew]
      exact h.written a (by grind)

theorem sameToHost_effect {s t : State} (h : SameToHost s t) (e : Effect) : SameToHost (e.apply s) (e.apply t) := by
  cases e with
  | answer r => exact sameToHost_respond h r
  | start => exact sameToHost_startFrame h.cmdPad h.issued
  | receive b => exact sameToHost_pushed h b
  | conclude v => exact sameToHost_conclude h v

theorem sameToHost_taken {s t : State} (h : SameToHost s t) (rest : List Hop) :
    SameToHost (taken s rest) (taken t rest) :=
  ⟨h.cnt, h.acc, h.status, h.cmdPad, rfl, h.resp, h.written⟩

/-- Settles O43: the two steps perform the same word, with the same effect, which keeps stale cells stale. -/
theorem stepKeepsSameToHost : Obligations.StepKeepsSameToHost := by
  intro s t hs _ h
  cases hissued : s.issued with
  | nil => exact ⟨s, t, step_of_issued_nil hissued, step_of_issued_nil (h.issued ▸ hissued), h⟩
  | cons w rest =>
    have hissued' : t.issued = w :: rest := h.issued ▸ hissued
    have htaken := sameToHost_taken h rest
    cases hw : decode w with
    | ok i =>
      obtain ⟨e, _, hes, het⟩ := exec_effect_agree i (seesSame_of_sameToHost (sound_taken hs rest) htaken)
      exact ⟨_, _, (step_of_decode_ok hissued hw).trans hes, (step_of_decode_ok hissued' hw).trans het,
        sameToHost_effect htaken e⟩
    | error err =>
      exact ⟨_, _, step_of_decode_error hissued hw, step_of_decode_error hissued' hw,
        sameToHost_respond htaken .illegalOp⟩

/-- Settles O44. -/
theorem clearHidesThePast : Obligations.ClearHidesThePast := by
  intro s t hpad hissued
  exact ⟨_, _, exec_clear s, exec_clear t, sameToHost_startFrame hpad hissued⟩

theorem run_succ_of_step {s t : State} (h : step s = .next t) (n : Nat) :
    Host.Core.run Sys2Proof.core (n + 1) s = Host.Core.run Sys2Proof.core n t := by
  have hcore : Sys2Proof.core.step s = .next t := h
  simp only [Host.Core.run, hcore]

/-- Any number of steps keeps two states the same to a host, by induction on that number. -/
theorem run_keeps_sameToHost (n : Nat) {s t : State} (hs : Sound s) (ht : Sound t) (h : SameToHost s t) :
    ∃ s' t' : State, Host.Core.run Sys2Proof.core n s = .next s' ∧ Host.Core.run Sys2Proof.core n t = .next t' ∧
      SameToHost s' t' := by
  induction n generalizing s t with
  | zero => exact ⟨s, t, rfl, rfl, h⟩
  | succ n ih =>
    obtain ⟨s₁, t₁, hstep, hstep', h₁⟩ := stepKeepsSameToHost s t hs ht h
    rw [run_succ_of_step hstep, run_succ_of_step hstep']
    exact ih (stepKeepsSound s s₁ hs hstep) (stepKeepsSound t t₁ ht hstep') h₁

/-- Settles O45: after reset every cell of `FB` is stale, and any number of steps keeps the two states the
same to a host. -/
theorem resetContentsUnobservable : Obligations.ResetContentsUnobservable := by
  intro fb fb' pad ws n hfb hfb'
  have hsound : ∀ {m : Memory}, m.wf = true → Sound (taken (State.resetWith m pad) ws) :=
    fun hm => sound_taken (sound_resetWith pad hm) ws
  have hsame : SameToHost (taken (State.resetWith fb pad) ws) (taken (State.resetWith fb' pad) ws) :=
    ⟨rfl, rfl, rfl, rfl, rfl, rfl, by simp [taken]⟩
  obtain ⟨s, t, hs, ht, h⟩ := run_keeps_sameToHost n (hsound hfb) (hsound hfb') hsame
  exact ⟨s, t, hs, ht, h.resp, h.status, h.cnt, h.acc⟩

end Sys2Proof.Proofs

-- ---------------------------------------------------------------- the status word (R27)

namespace Sys2Proof.Proofs

open Sys2Proof.Machine

/-- Settles O6: `ACC` is below 2^8, `CNT` below 2^7 and the code of `STATUS` below 2^2, so the fields do not overlap. -/
theorem statusWordFieldsReadBack : Obligations.StatusWordFieldsReadBack := by
  refine ⟨⟨rfl, rfl, rfl, rfl⟩, fun st cnt acc => ?_⟩
  have hcode := st.code.isLt
  have hcnt := cnt.isLt
  have hacc := acc.isLt
  simp only [statusWord, bitRange]
  omega

end Sys2Proof.Proofs

-- ---------------------------------------------------------------- the operations that only answer (R51), the frame map (R43)

namespace Sys2Proof.Proofs

open Sys2Proof.Machine Sys2Proof.Safety

/-- R51: the effects other than an answer belong to `CLEAR`, `PUSH` and `END`. -/
theorem exists_answers_of_not_writer {i : Instr} (s : State) (hclear : i ≠ .clear) (hend : i ≠ .endFrame)
    (hpush : ∀ b, i ≠ .push b) : ∃ r, Answers i s r := by
  obtain ⟨e, he, hexec⟩ := exec_effect i s
  cases he with
  | answer i r => exact ⟨r, hexec⟩
  | start => exact absurd rfl hclear
  | receive b hs => exact absurd rfl (hpush b)
  | conclude hs => exact absurd rfl hend

/-- An answer does not depend on the answer given before, which no operation reads (log entry 3). -/
theorem answers_after_response {i : Instr} {s : State} {r : Response} (h : Answers i s r) (r' : Option Response) :
    Answers i { s with resp := r' } r := by
  obtain ⟨t, ht, hafter⟩ := modelFieldsTakeNoPart i s r' s.issued
  obtain rfl : t = { s with resp := some r } := Host.Outcome.next.inj (ht.symm.trans h)
  exact hafter

/-- Settles O24. -/
theorem readsAreIdempotent : Obligations.ReadsAreIdempotent := by
  intro i s hclear hend hpush
  obtain ⟨r, hr⟩ := exists_answers_of_not_writer s hclear hend hpush
  exact ⟨r, hr, answers_after_response hr (some r)⟩

/-- Settles O30: the map is a closed table of 32 regions over 93 addresses. -/
theorem frameMapCoversEachByteOnce : Obligations.FrameMapCoversEachByteOnce := by
  have hcovered : ∀ a, a < 93 → (frameMap.filter (fun r => r.covers a)).length = 1 := by decide
  have hinside : ∀ r ∈ frameMap, r.lo + r.n ≤ 93 := by decide
  exact ⟨hcovered, hinside⟩

end Sys2Proof.Proofs

-- ---------------------------------------------------------------- the word of an operation (R64, R65)

namespace Sys2Proof.Proofs

@[simp] theorem opOf_hopOf (op a b : Byte) : opOf (hopOf op a b) = op :=
  calc (op ++ a ++ b).extractLsb' 16 8
      = (op ++ a).extractLsb' 8 8 := BitVec.extractLsb'_append_eq_of_le (by decide)
    _ = op := BitVec.extractLsb'_append_eq_left

@[simp] theorem operandA_hopOf (op a b : Byte) : operandA (hopOf op a b) = a :=
  calc (op ++ a ++ b).extractLsb' 8 8
      = (op ++ a).extractLsb' 0 8 := BitVec.extractLsb'_append_eq_of_le (by decide)
    _ = a := BitVec.extractLsb'_append_eq_right

@[simp] theorem operandB_hopOf (op a b : Byte) : operandB (hopOf op a b) = b :=
  BitVec.extractLsb'_append_eq_right

/-- The word of an operation decodes to it, for every operand. -/
theorem decode_encode (i : Instr) : decode (encode i) = .ok i := by
  cases i with
  | push b => simp [encode, Instr.opcode, Instr.byteA, decode, decodeControl]
  | buildcmd a f => simp [encode, Instr.opcode, Instr.byteA, Instr.byteB, decode, decodeControl]
  | rdbyte a => simp [encode, Instr.opcode, Instr.byteA, decode, decodeControl]
  | _ => rfl

end Sys2Proof.Proofs

-- ---------------------------------------------------------------- issued words and sequences of operations (R50, R52)

namespace Sys2Proof.Proofs

open Sys2Proof.Machine

/-- Settles O34. -/
theorem stepRunsDecodedOperation : Obligations.StepRunsDecodedOperation :=
  fun _ _ _ _ hissued hw => step_of_decode_ok hissued hw

/-- No operation reads or writes the words still issued (log entry 4). -/
theorem exec_taken {i : Instr} {s t : State} (h : exec i s = .next t) (ws : List Hop) :
    exec i (taken s ws) = .next (taken t ws) := by
  obtain ⟨u, hu, hws⟩ := modelFieldsTakeNoPart i s s.resp ws
  obtain rfl : u = t := Host.Outcome.next.inj (hu.symm.trans h)
  exact hws

/-- A step with the word of an operation issued first does what the operation does, and takes the word. -/
theorem step_of_issued_encode {i : Instr} {s t : State} (h : exec i s = .next t) (ws : List Hop) :
    step (taken s (encode i :: ws)) = .next (taken t ws) :=
  (step_of_decode_ok rfl (decode_encode i)).trans (exec_taken h ws)

/-- One step for each issued word performs the sequence, by induction on it. -/
theorem run_issued_eq_execSeq (ops : List Instr) (s : State) :
    Host.Core.run Sys2Proof.core ops.length (taken s (ops.map encode)) = execSeq ops (taken s []) := by
  induction ops generalizing s with
  | nil => rfl
  | cons i rest ih =>
    obtain ⟨e, _, hexec⟩ := exec_effect i s
    have hstep := step_of_issued_encode hexec (rest.map encode)
    have hseq : execSeq (i :: rest) (taken s []) = execSeq rest (taken (e.apply s) []) :=
      execSeq_cons (exec_taken hexec [])
    rw [hseq, ← ih (e.apply s)]
    exact run_succ_of_step hstep rest.length

/-- Settles O38. -/
theorem stepsPerformIssuedSequence : Obligations.StepsPerformIssuedSequence := run_issued_eq_execSeq

end Sys2Proof.Proofs

-- ---------------------------------------------------------------- several instances (R56, R184)

namespace Sys2Proof.Proofs

open Sys2Proof.Machine

/-- R199: every step completes. -/
theorem step_completes (s : State) : ∃ t, step s = .next t := by
  cases hissued : s.issued with
  | nil => exact ⟨s, step_of_issued_nil hissued⟩
  | cons w rest =>
    cases hw : decode w with
    | ok i =>
      obtain ⟨e, _, hexec⟩ := exec_effect i (taken s rest)
      exact ⟨_, (step_of_decode_ok hissued hw).trans hexec⟩
    | error err => exact ⟨_, step_of_decode_error hissued hw⟩

/-- R56: a step of an instance replaces its state and nothing else. -/
theorem stepUnit_of_step {n : Nat} {k : Fin n} {us : Units n} {t : State} (h : step us[k] = .next t) :
    stepUnit k us = .next (us.set k t) := by
  simp only [stepUnit, h]

theorem set_unit_other {n : Nat} (us : Units n) {k l : Fin n} (t : State) (h : l ≠ k) : (us.set k t)[l] = us[l] :=
  Vector.getElem_set_ne k.isLt l.isLt (Fin.val_ne_of_ne h.symm)

/-- Settles O55: a step replaces its own instance, so the other finds its state as before in either order. -/
theorem instancesShareNothing : Obligations.InstancesShareNothing := by
  intro n j k us hjk
  obtain ⟨t, ht⟩ := step_completes us[k]
  obtain ⟨u, hu⟩ := step_completes us[j]
  have hj : step (us.set k t)[j] = .next u := by rw [set_unit_other us t hjk, hu]
  have hk : step (us.set j u)[k] = .next t := by rw [set_unit_other us u hjk.symm, ht]
  have hcomm : (us.set k t).set j u = (us.set j u).set k t := Vector.set_comm t u (Fin.val_ne_of_ne hjk.symm)
  refine ⟨us.set k t, us.set j u, (us.set k t).set j u, stepUnit_of_step ht, ?_, fun l hl => set_unit_other us t hl,
    stepUnit_of_step hu, stepUnit_of_step hj, ?_⟩
  · simpa using ht
  · rw [hcomm]
    exact stepUnit_of_step hk

end Sys2Proof.Proofs

-- ---------------------------------------------------------------- the decoder, code by code (R64, R65, R72, R73)

namespace Sys2Proof.Proofs

/-- A word is its three bytes (R64). -/
theorem hopOf_fields (w : Hop) : hopOf (opOf w) (operandA w) (operandB w) = w :=
  calc w.extractLsb' 16 8 ++ w.extractLsb' 8 8 ++ w.extractLsb' 0 8
      = w.extractLsb' 8 16 ++ w.extractLsb' 0 8 := by
        rw [BitVec.extractLsb'_append_extractLsb'_eq_extractLsb' (by decide)]
    _ = w.extractLsb' 0 24 := BitVec.extractLsb'_append_extractLsb'_eq_extractLsb' (by decide)
    _ = w := BitVec.extractLsb'_eq_self

/-- Two words are equal when their three bytes are. -/
theorem hop_eq_iff {v w : Hop} :
    v = w ↔ opOf v = opOf w ∧ operandA v = operandA w ∧ operandB v = operandB w := by
  constructor
  · rintro rfl
    exact ⟨rfl, rfl, rfl⟩
  · rintro ⟨hop, ha, hb⟩
    rw [← hopOf_fields v, hop, ha, hb, hopOf_fields]

@[simp] theorem opOf_and (v w : Hop) : opOf (v &&& w) = opOf v &&& opOf w := BitVec.extractLsb'_and
@[simp] theorem operandA_and (v w : Hop) : operandA (v &&& w) = operandA v &&& operandA w := BitVec.extractLsb'_and
@[simp] theorem operandB_and (v w : Hop) : operandB (v &&& w) = operandB v &&& operandB w := BitVec.extractLsb'_and

@[simp] theorem byte_and_ones (b : Byte) : b &&& 255#8 = b := by
  have hones : 255#8 = BitVec.allOnes 8 := by decide
  rw [hones, BitVec.and_allOnes]

theorem opOf_masks : opOf 0xFF0000#24 = 255#8 ∧ opOf 0xFFFF00#24 = 255#8 ∧ opOf 0xFFFFFF#24 = 255#8 := by
  decide

/-- The operand bytes of the three patterns of used bits (R73). -/
theorem operand_masks :
    (operandA 0xFF0000#24 = 0#8 ∧ operandB 0xFF0000#24 = 0#8) ∧
    (operandA 0xFFFF00#24 = 255#8 ∧ operandB 0xFFFF00#24 = 0#8) ∧
    operandA 0xFFFFFF#24 = 255#8 ∧ operandB 0xFFFFFF#24 = 255#8 := by
  decide

/-- Every operation uses the whole of `OP` (R73). -/
@[simp] theorem opOf_usedBits (i : Instr) : opOf i.usedBits = 255#8 := by
  cases i <;> simp only [Instr.usedBits, opOf_masks]

/-- The operation of the same code with the operands `a` and `b`, where it uses them (R65). -/
def withOperands (a b : Byte) : Instr → Instr
  | .push _ => .push a
  | .buildcmd _ _ => .buildcmd a b
  | .rdbyte _ => .rdbyte a
  | i => i

/-- The operands of an operation are `a` and `b` exactly when these agree with its operand bytes on the bits it uses. -/
theorem withOperands_eq_self_iff (a b : Byte) (i : Instr) :
    withOperands a b i = i ↔ a &&& operandA i.usedBits = i.byteA ∧ b &&& operandB i.usedBits = i.byteB := by
  cases i <;> simp [withOperands, Instr.usedBits, Instr.byteA, Instr.byteB, operand_masks]

/-- A word agrees with the operation's word on the bits the operation uses exactly when it has the operation's code, and
its operands where the operation uses them. -/
theorem and_usedBits_eq_encode_iff (w : Hop) (i : Instr) :
    w &&& i.usedBits = encode i ↔ opOf w = i.opcode ∧ withOperands (operandA w) (operandB w) i = i := by
  rw [hop_eq_iff, withOperands_eq_self_iff]
  simp [encode]

/-- A word with the code of an operation decodes to that operation on the word's operands (R65, R73). -/
theorem decode_of_opcode {w : Hop} {i : Instr} (h : opOf w = i.opcode) :
    decode w = .ok (withOperands (operandA w) (operandB w) i) := by
  cases i <;> simp [decode, decodeControl, decodeField, h, Instr.opcode, withOperands]

/-- The codes of the operations are assigned (R65, R72). -/
theorem reservedOp_opcode (i : Instr) : reservedOp i.opcode = false := by
  cases i <;> simp [reservedOp, Instr.opcode]

/-- The reserved ranges of R72, as propositions. -/
theorem reservedOp_iff {op : Byte} :
    reservedOp op = true ↔ (0x07 ≤ op.toNat ∧ op.toNat ≤ 0x3F) ∨ (0x4C ≤ op.toNat ∧ op.toNat ≤ 0x4F) ∨ 0x5E ≤ op.toNat := by
  simp [reservedOp, or_assoc]

/-- Class 0 (R65, R72): an operation of the word's code, or the rejection of a code of 0x07..0x3F. -/
theorem decodeControl_cases {w : Hop} (hclass : (opOf w).toNat < 0x40) :
    (∃ i, decodeControl w = .ok i ∧ opOf w = i.opcode) ∨
      (∃ e, decodeControl w = .error e) ∧ reservedOp (opOf w) = true := by
  unfold decodeControl
  split
  case h_8 =>
    refine .inr ⟨⟨_, rfl⟩, ?_⟩
    simp only [imp_false] at *
    rw [reservedOp_iff]
    omega
  all_goals exact .inl ⟨_, rfl, BitVec.eq_of_toNat_eq ‹_›⟩

/-- Class 1 (R65, R72): an operation of the word's code, or the rejection of a code of 0x4C..0x4F or 0x5E..0x7F. -/
theorem decodeField_cases {w : Hop} (hclass : 0x40 ≤ (opOf w).toNat) :
    (∃ i, decodeField w = .ok i ∧ opOf w = i.opcode) ∨
      (∃ e, decodeField w = .error e) ∧ reservedOp (opOf w) = true := by
  unfold decodeField
  split
  case h_27 =>
    refine .inr ⟨⟨_, rfl⟩, ?_⟩
    simp only [imp_false] at *
    rw [reservedOp_iff]
    omega
  all_goals exact .inl ⟨_, rfl, BitVec.eq_of_toNat_eq ‹_›⟩

/-- Everything the decoder can do: answer an operation of the word's code, or reject a reserved code. -/
theorem decode_cases (w : Hop) :
    (∃ i, decode w = .ok i ∧ opOf w = i.opcode) ∨ (∃ e, decode w = .error e) ∧ reservedOp (opOf w) = true := by
  unfold decode
  by_cases hcontrol : (opOf w).toNat < 0x40
  · rw [if_pos hcontrol]
    exact decodeControl_cases hcontrol
  · rw [if_neg hcontrol]
    by_cases hfield : (opOf w).toNat < 0x80
    · rw [if_pos hfield]
      exact decodeField_cases (Nat.le_of_not_lt hcontrol)
    · rw [if_neg hfield]
      refine .inr ⟨⟨_, rfl⟩, ?_⟩
      rw [reservedOp_iff]
      omega

/-- An operation decoded from a word has the word's code. -/
theorem opOf_of_decode_ok {w : Hop} {i : Instr} (h : decode w = .ok i) : opOf w = i.opcode := by
  obtain ⟨j, hj, hop⟩ | ⟨⟨e, he⟩, _⟩ := decode_cases w
  · obtain rfl : j = i := Except.ok.inj (hj.symm.trans h)
    exact hop
  · rw [he] at h
    cases h

/-- The decoder by the fields of the word: the operation's code, and its operands where it uses them. -/
theorem decode_eq_ok_iff (w : Hop) (i : Instr) :
    decode w = .ok i ↔ opOf w = i.opcode ∧ withOperands (operandA w) (operandB w) i = i := by
  constructor
  · intro h
    have hop := opOf_of_decode_ok h
    exact ⟨hop, Except.ok.inj ((decode_of_opcode hop).symm.trans h)⟩
  · rintro ⟨hop, hoperands⟩
    rw [decode_of_opcode hop, hoperands]

/-- Settles O31: both sides say that the word has the operation's code, and its operands where it uses them. -/
theorem decodeAndEncodeAgree : Obligations.DecodeAndEncodeAgree :=
  ⟨decode_encode, fun w i => (decode_eq_ok_iff w i).trans (and_usedBits_eq_encode_iff w i).symm⟩

/-- Settles O32: a decoded word has the code of an operation, which is assigned. -/
theorem decoderRejectsExactlyReserved : Obligations.DecoderRejectsExactlyReserved := by
  intro w
  obtain ⟨i, hi, hop⟩ | ⟨herror, hreserved⟩ := decode_cases w
  · simp [hi, hop, reservedOp_opcode]
  · exact iff_of_true herror hreserved

/-- Settles O35. -/
theorem reservedWordAnswersIllegalOp : Obligations.ReservedWordAnswersIllegalOp := by
  intro s w rest hissued hreserved
  obtain ⟨e, he⟩ := (decoderRejectsExactlyReserved w).mpr hreserved
  exact step_of_decode_error hissued he

/-- Settles O33: the operand bytes that the spec's words carry where R65 ignores them drop out. -/
theorem specWordsDecode : Obligations.SpecWordsDecode :=
  ⟨rfl, rfl, rfl, rfl, rfl, rfl, rfl, rfl, rfl, rfl, rfl⟩

end Sys2Proof.Proofs

-- ---------------------------------------------------------------- INDEX_RANGE (R66, R176)

namespace Sys2Proof.Proofs

open Sys2Proof.Machine Sys2Proof.Safety

/-- R66: only `RDBYTE` restricts its operand. -/
theorem wellFormed_eq_false_iff {i : Instr} :
    i.wellFormed = false ↔ ∃ a, i = .rdbyte a ∧ Config.csumIdx < a.toNat := by
  cases i with
  | rdbyte a =>
    have hlegal : a.toNat < Config.frameLen ↔ ¬ Config.csumIdx < a.toNat := Nat.lt_succ_iff.trans Nat.not_lt.symm
    simp [Instr.wellFormed, frameIndexLegal, hlegal]
  | _ => simp [Instr.wellFormed]

/-- The answer of an operation is the one its next state records. -/
theorem answers_resp {i : Instr} {s t : State} {r : Response} (h : Answers i s r) (hexec : exec i s = .next t) :
    t.resp = some r := by
  obtain rfl := Host.Outcome.next.inj (hexec.symm.trans h)
  rfl

/-- No verdict answers INDEX_RANGE (R96). -/
theorem verdict_response_ne_indexRange (v : Verdict) : v.response ≠ .indexRange := by
  cases v <;> simp [Verdict.response]

/-- An operation that is no read goes on with another answer than INDEX_RANGE. -/
theorem exec_not_read_ne_indexRange {i : Instr} (s : State) (hi : isRead i = false) :
    ∃ t, exec i s = .next t ∧ t.resp ≠ some .indexRange := by
  obtain rfl | rfl | ⟨b, rfl⟩ | rfl | rfl | ⟨a, f, rfl⟩ := isRead_eq_false_iff.mp hi
  · exact ⟨_, exec_nop s, by simp⟩
  · exact ⟨_, exec_clear s, by simp⟩
  · by_cases hs : s.status = .recv
    · exact ⟨_, exec_push_of_recv b hs, by simp⟩
    · exact ⟨_, exec_push_of_ne_recv b hs, by simp⟩
  · by_cases hs : s.status = .recv
    · exact ⟨_, exec_endFrame_of_recv hs, by simp [verdict_response_ne_indexRange]⟩
    · exact ⟨_, exec_endFrame_of_ne_recv hs, by simp⟩
  · exact ⟨_, exec_rdstat s, by simp⟩
  · exact ⟨_, exec_buildcmd a f s, by simp⟩

/-- Every operation but `RDBYTE` goes on with another answer than INDEX_RANGE (R170). -/
theorem exec_ne_indexRange {i : Instr} (s : State) (hi : ¬ ∃ a, i = .rdbyte a) :
    ∃ t, exec i s = .next t ∧ t.resp ≠ some .indexRange := by
  cases hread : isRead i with
  | false => exact exec_not_read_ne_indexRange s hread
  | true =>
    obtain ⟨f, hf⟩ := (isRead_iff.mp hread).resolve_left hi
    refine ⟨_, exec_eq_of_fieldOf hf s, ?_⟩
    by_cases hs : s.status = .valid <;> simp [hs]

/-- `RDBYTE` answers INDEX_RANGE in `VALID` exactly for an index past the frame (R112). -/
theorem answers_rdbyte_indexRange_iff (a : Byte) {s : State} (hs : s.status = .valid) :
    Answers (.rdbyte a) s .indexRange ↔ Config.csumIdx < a.toNat := by
  rw [Answers, exec_rdbyte, if_pos hs]
  by_cases ha : a.toNat ≤ Config.csumIdx
  · simp [ha, State.respond]
  · simp [ha, State.respond, Nat.lt_of_not_le ha]

/-- Settles O28: `RDBYTE` by its own rule; every other operation is well-formed and answers something else. -/
theorem indexRangeIffIllegalIndex : Obligations.IndexRangeIffIllegalIndex := by
  intro i s hs
  by_cases hi : ∃ a, i = .rdbyte a
  · obtain ⟨a, rfl⟩ := hi
    simp [answers_rdbyte_indexRange_iff a hs, wellFormed_eq_false_iff]
  · obtain ⟨t, hexec, hresp⟩ := exec_ne_indexRange s hi
    refine iff_of_false (fun h => hresp (answers_resp h hexec)) fun h => hi ?_
    obtain ⟨a, rfl, _⟩ := wellFormed_eq_false_iff.mp h
    exact ⟨a, rfl⟩

end Sys2Proof.Proofs

-- ---------------------------------------------------------------- mnemonics and numerals as words of a line (R76)

namespace Sys2Proof.Proofs

open Sys2Proof.Machine

/-- A character that stands inside a mnemonic or a numeral: no blank, and none that ends an operand or a line (R76). -/
def isWordChar (c : Char) : Bool := !isBlank c && c != ',' && c != ';'

/-- A mnemonic or a numeral. -/
def Word (cs : List Char) : Prop := cs ≠ [] ∧ cs.all isWordChar = true

theorem isWordChar_iff {c : Char} : isWordChar c = true ↔ isBlank c = false ∧ c ≠ ',' ∧ c ≠ ';' := by
  simp [isWordChar, and_assoc]

theorem word_char {cs : List Char} (h : Word cs) {c : Char} (hc : c ∈ cs) : isBlank c = false ∧ c ≠ ',' ∧ c ≠ ';' :=
  isWordChar_iff.mp (List.all_eq_true.mp h.2 c hc)

theorem word_not_blank {cs : List Char} (h : Word cs) {c : Char} (hc : c ∈ cs) : isBlank c = false := (word_char h hc).1

theorem word_no_comma {cs : List Char} (h : Word cs) : ',' ∉ cs := fun hc => (word_char h hc).2.1 rfl

theorem word_no_semicolon {cs : List Char} (h : Word cs) : ';' ∉ cs := fun hc => (word_char h hc).2.2 rfl

theorem word_reverse {cs : List Char} (h : Word cs) : Word cs.reverse := by
  simpa [Word] using h

-- ---------------------------------------------------------------- byte numerals

theorem hexDigit_digitChar : ∀ v < 16, hexDigit (digitChar v) = some v := by decide

theorem isWordChar_digitChar : ∀ v < 16, isWordChar (digitChar v) = true := by decide

theorem word_byteText (b : Byte) : Word (byteText b) := by
  have hhigh : b.toNat / 16 < 16 := by omega
  have hlow : b.toNat % 16 < 16 := by omega
  have hstart : isWordChar '0' = true ∧ isWordChar 'x' = true := by decide
  simp [Word, byteText, hstart, isWordChar_digitChar _ hhigh, isWordChar_digitChar _ hlow]

/-- The numeral of a byte reads back: its two digits are the quotient and the remainder by 16. -/
theorem byteNumeral_byteText (b : Byte) : byteNumeral (byteText b) = some b := by
  have hhigh : b.toNat / 16 < 16 := by omega
  have hlow : b.toNat % 16 < 16 := by omega
  have hvalue : b.toNat / 16 * 16 + b.toNat % 16 = b.toNat := Nat.div_add_mod' b.toNat 16
  simp [byteNumeral, byteText, digitsFrom, hexDigit_digitChar _ hhigh, hexDigit_digitChar _ hlow, hvalue, b.isLt]

-- ---------------------------------------------------------------- blanks and commas

/-- A text that begins with a word has no blanks to drop. -/
theorem dropWhile_blank_word_append {p : List Char} (hp : Word p) (x : List Char) :
    (p ++ x).dropWhile isBlank = p ++ x := by
  cases p with
  | nil => exact absurd rfl hp.1
  | cons c cs => simp [word_not_blank hp List.mem_cons_self]

/-- A text that begins and ends with a word is trimmed. -/
theorem trim_word_append_word {p q : List Char} (hp : Word p) (x : List Char) (hq : Word q) :
    trim (p ++ (x ++ q)) = p ++ (x ++ q) := by
  have hback : (p ++ (x ++ q)).reverse = q.reverse ++ (p ++ x).reverse := by simp
  rw [trim, dropWhile_blank_word_append hp, hback, dropWhile_blank_word_append (word_reverse hq), ← hback,
    List.reverse_reverse]

theorem trim_word {p : List Char} (hp : Word p) : trim p = p := by
  have hback := dropWhile_blank_word_append (word_reverse hp) []
  have hfront := dropWhile_blank_word_append hp []
  rw [List.append_nil] at hback hfront
  rw [trim, hfront, hback, List.reverse_reverse]

@[simp] theorem trim_space_cons (cs : List Char) : trim (' ' :: cs) = trim cs := by
  simp [trim, isBlank]

theorem pieces_ne_nil (sep : Char → Bool) (cs : List Char) : pieces sep cs ≠ [] := by
  cases cs with
  | nil => simp [pieces]
  | cons c cs =>
    simp only [pieces]
    split
    · simp
    · split <;> simp

/-- A text without a separator is one piece. -/
theorem pieces_of_no_comma {p : List Char} (hp : ',' ∉ p) : pieces (· == ',') p = [p] := by
  induction p with
  | nil => rfl
  | cons c cs ih =>
    obtain ⟨hc, hcs⟩ := not_or.mp (List.mem_cons.not.mp hp)
    simp [pieces, ih hcs, Ne.symm hc]

/-- The text before the first separator is the first piece. -/
theorem pieces_append_comma {p : List Char} (hp : ',' ∉ p) (cs : List Char) :
    pieces (· == ',') (p ++ ',' :: cs) = p :: pieces (· == ',') cs := by
  induction p with
  | nil =>
    cases hrest : pieces (· == ',') cs with
    | nil => exact absurd hrest (pieces_ne_nil _ _)
    | cons q qs => simp [pieces, hrest]
  | cons c p ih =>
    obtain ⟨hc, hp⟩ := not_or.mp (List.mem_cons.not.mp hp)
    simp [pieces, ih hp, Ne.symm hc]

theorem commaOperands_one (b : Byte) : commaOperands (byteText b) = some [b] := by
  have hb := word_byteText b
  simp [commaOperands, hb.1, pieces_of_no_comma (word_no_comma hb), trim_word hb, byteNumeral_byteText]

theorem commaOperands_two (a f : Byte) : commaOperands (byteText a ++ [',', ' '] ++ byteText f) = some [a, f] := by
  have ha := word_byteText a
  have hf := word_byteText f
  have hsecond : ',' ∉ ' ' :: byteText f := by simp [word_no_comma hf]
  simp [commaOperands, ha.1, pieces_append_comma (word_no_comma ha), pieces_of_no_comma hsecond, trim_word ha,
    trim_word hf, byteNumeral_byteText]

-- ---------------------------------------------------------------- lines and programs

/-- The mnemonics that `assembleLine` does not give to `operationOf` (R77). -/
def pseudoMnemonics : List (List Char) := ["PUSHN".toList, "FRAME".toList, "READALL".toList]

/-- A word that `assembleLine` gives to `operationOf`. -/
def IsMnemonic (m : List Char) : Prop := Word m ∧ m ∉ pseudoMnemonics

theorem isMnemonic_push : IsMnemonic "PUSH".toList := by 
  unfold IsMnemonic Word
  decide

theorem isMnemonic_rdbyte : IsMnemonic "RDBYTE".toList := by 
  unfold IsMnemonic Word
  decide

theorem isMnemonic_buildcmd : IsMnemonic "BUILDCMD".toList := by 
  unfold IsMnemonic Word
  decide

/-- A line of a mnemonic, a blank and an operand text `x ++ q` that is trimmed and ends with a word. -/
theorem assembleLine_command {m x q : List Char} {bs : List Byte} (hm : IsMnemonic m)
    (hx : ';' ∉ x) (hq : Word q) (htrim : trim (x ++ q) = x ++ q) (hbs : commaOperands (x ++ q) = some bs) :
    assembleLine (m ++ ' ' :: (x ++ q)) = (operationOf m bs).map ([·]) := by
  obtain ⟨hm, hpseudo⟩ := hm
  have hbody : (m ++ ' ' :: (x ++ q)).takeWhile (· != ';') = m ++ ' ' :: (x ++ q) := by
    have hnone : ';' ∉ m ++ ' ' :: (x ++ q) := by simp [word_no_semicolon hm, hx, word_no_semicolon hq]
    exact List.takeWhile_eq_self_iff.mpr fun c hc => bne_iff_ne.mpr (ne_of_mem_of_not_mem hc hnone)
  have hline : trim (m ++ ' ' :: (x ++ q)) = m ++ ' ' :: (x ++ q) := trim_word_append_word hm (' ' :: x) hq
  have hmnemonic : (m ++ ' ' :: (x ++ q)).takeWhile (fun c => !isBlank c) = m := by
    rw [List.takeWhile_append_of_pos fun c hc => by simp [word_not_blank hm hc]]
    simp [isBlank]
  have hrest : (m ++ ' ' :: (x ++ q)).dropWhile (fun c => !isBlank c) = ' ' :: (x ++ q) := by
    rw [List.dropWhile_append_of_pos fun c hc => by simp [word_not_blank hm hc]]
    simp [isBlank]
  obtain ⟨hpushn, hframe, hreadall⟩ : m ≠ "PUSHN".toList ∧ m ≠ "FRAME".toList ∧ m ≠ "READALL".toList := by
    simpa [pseudoMnemonics] using hpseudo
  simp only [assembleLine, hbody, hline, hmnemonic, hrest, trim_space_cons, htrim, hbs]
  rw [if_neg (by simpa using hm.1), if_neg hpushn, if_neg hframe, if_neg hreadall]

/-- The 30 operations without operands: a closed table of lines. -/
theorem assembleLine_plain : ∀ i ∈ plainOps, assembleLine (instrText i) = some [i] := by decide

/-- The line of an operation with one operand. -/
theorem assembleLine_one {m : List Char} (hm : IsMnemonic m) (b : Byte) :
    assembleLine (m ++ [' '] ++ byteText b) = (operationOf m [b]).map ([·]) := by
  have hb := word_byteText b
  rw [List.append_assoc]
  exact assembleLine_command (x := []) hm List.not_mem_nil hb (trim_word hb) (commaOperands_one b)

/-- The line of an operation with two operands. -/
theorem assembleLine_two {m : List Char} (hm : IsMnemonic m) (a f : Byte) :
    assembleLine (m ++ [' '] ++ byteText a ++ [',', ' '] ++ byteText f) = (operationOf m [a, f]).map ([·]) := by
  have ha := word_byteText a
  have hf := word_byteText f
  have hx : ';' ∉ byteText a ++ [',', ' '] := by simp [word_no_semicolon ha]
  have htrim : trim (byteText a ++ [',', ' '] ++ byteText f) = byteText a ++ [',', ' '] ++ byteText f := by
    rw [List.append_assoc]
    exact trim_word_append_word ha [',', ' '] hf
  have hline := assembleLine_command hm hx hf htrim (commaOperands_two a f)
  simpa using hline

/-- R76: the text of an operation is a line that stands for it. -/
theorem assembleLine_instrText (i : Instr) : assembleLine (instrText i) = some [i] := by
  by_cases hplain : i ∈ plainOps
  · exact assembleLine_plain i hplain
  · cases i with
    | push b => exact assembleLine_one isMnemonic_push b
    | rdbyte b => exact assembleLine_one isMnemonic_rdbyte b
    | buildcmd a f => exact assembleLine_two isMnemonic_buildcmd a f
    | _ => exact absurd (by decide) hplain

/-- The lines of a sequence of operations stand for them one by one, by induction on it. -/
theorem mapM_assembleLine_instrText (ops : List Instr) :
    (ops.map instrText).mapM assembleLine = some (ops.map ([·])) := by
  induction ops with
  | nil => rfl
  | cons i rest ih => simp [assembleLine_instrText, ih]

/-- Settles O56. -/
theorem assemblerReadsOperationText : Obligations.AssemblerReadsOperationText := by
  refine ⟨assembleLine_instrText, fun ops => ?_⟩
  have hflat : (ops.map ([·])).flatten = ops := List.flatMap_singleton' ops
  rw [assemble, mapM_assembleLine_instrText]
  simp only [hflat]

end Sys2Proof.Proofs

-- ---------------------------------------------------------------- the operations that are no reads, rule by rule (R94 to R99)

namespace Sys2Proof.Proofs

open Sys2Proof.Machine Sys2Proof.Safety

/-- Settles O1. -/
theorem nopOnlyAnswersOk : Obligations.NopOnlyAnswersOk := fun s => ⟨false, exec_nop s⟩

/-- Settles O2. -/
theorem clearStartsNewFrame : Obligations.ClearStartsNewFrame := fun s => ⟨false, exec_clear s⟩

/-- Settles O3: the state after a `PUSH` in `RECV` is `pushed s b`, whose fields have their laws. -/
theorem pushStoresAddsAndCounts : Obligations.PushStoresAddsAndCounts := by
  refine fun b s => ⟨exec_push_of_ne_recv b, fun hs => ⟨pushed s b, exec_push_of_recv b hs, ?_⟩⟩
  exact ⟨pushed_read s b, accAfterPush_toNat s.cnt s.acc b, cntAfterPush_toNat s.cnt, hs, ⟨false, rfl⟩, rfl, rfl⟩

/-- The verdict on the byte that stands in `FB[92]` (R96). -/
def verdictOf (s : State) : Verdict := judge s.cnt s.acc (s.fb.read Config.csumIdx).toNat

theorem verdictOf_of_length_ne {s : State} (hc : s.cnt.toNat ≠ Config.frameLen) : verdictOf s = .lengthError :=
  if_pos hc

theorem verdictOf_of_sum_ne {s : State} (hc : s.cnt.toNat = Config.frameLen)
    (ha : s.acc ≠ s.fb.read Config.csumIdx) : verdictOf s = .checksumError := by
  rw [verdictOf, judge, if_neg (not_not_intro hc), if_pos (BitVec.toNat_ne.mp ha)]

theorem verdictOf_of_sum_eq {s : State} (hc : s.cnt.toNat = Config.frameLen)
    (ha : s.acc = s.fb.read Config.csumIdx) : verdictOf s = .valid := by
  rw [verdictOf, judge, if_neg (not_not_intro hc), if_neg (not_not_intro (congrArg _ ha))]

/-- What the verdict writes to `STATUS`, and on which condition (R96, R103). -/
theorem verdictOf_status_cases (s : State) :
    ((verdictOf s).status = .errLength ∧ s.cnt.toNat ≠ Config.frameLen) ∨
    ((verdictOf s).status = .errChecksum ∧ s.cnt.toNat = Config.frameLen ∧ s.acc ≠ s.fb.read Config.csumIdx) ∨
    ((verdictOf s).status = .valid ∧ s.cnt.toNat = Config.frameLen ∧ s.acc = s.fb.read Config.csumIdx) := by
  by_cases hc : s.cnt.toNat = Config.frameLen
  · by_cases ha : s.acc = s.fb.read Config.csumIdx
    · exact .inr (.inr ⟨congrArg _ (verdictOf_of_sum_eq hc ha), hc, ha⟩)
    · exact .inr (.inl ⟨congrArg _ (verdictOf_of_sum_ne hc ha), hc, ha⟩)
  · exact .inl ⟨congrArg _ (verdictOf_of_length_ne hc), hc⟩

/-- `END` in `RECV` (R96), by the verdict. -/
theorem exec_endFrame_verdictOf {s : State} (hs : s.status = .recv) :
    exec .endFrame s = .next (s.conclude (verdictOf s)) := exec_endFrame_of_recv hs

/-- Settles O4: each clause is one of the three verdicts. -/
theorem endJudgesFrame : Obligations.EndJudgesFrame := by
  refine fun s => ⟨exec_endFrame_of_ne_recv, fun hs hc => ?_, fun hs hc ha => ?_, fun hs hc ha => ⟨false, ?_⟩⟩
  · rw [exec_endFrame_verdictOf hs, verdictOf_of_length_ne hc]; rfl
  · rw [exec_endFrame_verdictOf hs, verdictOf_of_sum_ne hc ha]; rfl
  · rw [exec_endFrame_verdictOf hs, verdictOf_of_sum_eq hc ha]; rfl

/-- Settles O27: of the effects an operation can have, only the start of a frame and a verdict write `STATUS`. -/
theorem statusTransitionTable : Obligations.StatusTransitionTable := by
  intro i s t hexec hchange
  obtain ⟨e, he, rfl⟩ := effect_of_exec hexec
  cases he with
  | answer i r => exact absurd rfl hchange
  | start => exact .inl ⟨rfl, rfl⟩
  | receive b hs => exact absurd rfl hchange
  | conclude hs =>
    exact .inr ⟨rfl, hs, verdictOf_status_cases s⟩

/-- A number below 2^32 is the number of its 32-bit word (R11). -/
theorem zext32_toNat {v : Nat} (h : v < 2 ^ 32) : (zext32 v).toNat = v := by
  rw [zext32, BitVec.toNat_ofNat, Nat.mod_eq_of_lt h]

/-- Settles O5: the status word has 17 bits, so `resp.raw` holds all of it. -/
theorem rdstatAnswersStatusWord : Obligations.RdstatAnswersStatusWord := by
  intro s
  have hfits : statusWord s.status s.cnt s.acc < 2 ^ 17 := (statusWordFieldsReadBack.2 s.status s.cnt s.acc).1
  refine ⟨_, false, exec_rdstat s, ?_⟩
  rw [zext32_toNat (by omega), statusWord]
  cases s.status <;> rfl

theorem toList_five (v : Vector Byte 5) : v.toList = [v[0], v[1], v[2], v[3], v[4]] := by
  obtain ⟨⟨bytes⟩, hsize⟩ := v
  match bytes, hsize with
  | [_, _, _, _, _], _ => rfl

/-- Settles O7. -/
theorem buildcmdAnswersCommand : Obligations.BuildcmdAnswersCommand := by
  intro a f s
  refine ⟨buildCommand s.cmdPad a f, false, exec_buildcmd a f s, rfl, rfl, rfl, rfl, rfl, rfl, rfl, ?_, ?_⟩
  · simp [buildCommand, toList_five]
  · simp [buildCommand, csum8_toNat, Nat.add_assoc]

end Sys2Proof.Proofs

-- ---------------------------------------------------------------- the checksum as a sum of bytes modulo 256 (R90, R101)

namespace Sys2Proof.Proofs

open Sys2Proof.Machine

theorem csum8_cons (b : Byte) (s : List Byte) : csum8 (b :: s) = b + csum8 s := by
  apply BitVec.eq_of_toNat_eq
  simp [csum8, BitVec.toNat_add]

/-- The exact sum narrowed once is the sum of the bytes in arithmetic modulo 256, by induction on the sequence. -/
theorem csum8_eq_sum (s : List Byte) : csum8 s = s.sum := by
  induction s with
  | nil => rfl
  | cons b rest ih => rw [csum8_cons, ih, List.sum_cons]

theorem csum8_append (s t : List Byte) : csum8 (s ++ t) = csum8 s + csum8 t := by
  simp only [csum8_eq_sum, List.sum_append]

/-- Settles O52: the laws are those of the sum. -/
theorem checksumLaws : Obligations.ChecksumLaws := by
  refine ⟨fun s t h => ?_, fun s t => ?_, fun s t => ?_⟩
  · rw [csum8_eq_sum, csum8_eq_sum, h.sum_eq]
  · rw [csum8_append, BitVec.toNat_add]
  · rw [csum8_append, csum8_cons, BitVec.zero_add, csum8_append]

/-- A changed byte changes the checksum by the difference of the two bytes. -/
theorem csum8_set {s : List Byte} {i : Nat} (hi : i < s.length) (b : Byte) :
    csum8 (s.set i b) = csum8 s + (b - s.getD i 0#8) := by
  rw [csum8_eq_sum, csum8_eq_sum, List.sum_set', dif_pos hi, List.getD_eq_getElem _ _ hi, neg_add_eq_sub]

end Sys2Proof.Proofs

-- ---------------------------------------------------------------- VALIDATE (R91 to R93)

namespace Sys2Proof.Proofs

open Sys2Proof.Machine

theorem validate_of_length_ne {f : List Byte} (h : f.length ≠ Config.frameLen) : validate f = .lengthError :=
  if_pos h

theorem validate_of_sum_ne {f : List Byte} (hlen : f.length = Config.frameLen)
    (hsum : csum8 (f.take Config.sumLen) ≠ f.getD Config.csumIdx 0#8) : validate f = .checksumError := by
  rw [validate, if_neg (not_not_intro hlen), if_pos hsum]

theorem validate_of_sum_eq {f : List Byte} (hlen : f.length = Config.frameLen)
    (hsum : csum8 (f.take Config.sumLen) = f.getD Config.csumIdx 0#8) : validate f = .valid f := by
  rw [validate, if_neg (not_not_intro hlen), if_neg (not_not_intro hsum)]

/-- Everything `VALIDATE` can answer, and when (R91). -/
theorem validate_cases (bs : List Byte) :
    (bs.length ≠ Config.frameLen ∧ validate bs = .lengthError) ∨
    (bs.length = Config.frameLen ∧ csum8 (bs.take Config.sumLen) ≠ bs.getD Config.csumIdx 0#8 ∧
      validate bs = .checksumError) ∨
    (bs.length = Config.frameLen ∧ csum8 (bs.take Config.sumLen) = bs.getD Config.csumIdx 0#8 ∧
      validate bs = .valid bs) := by
  by_cases hlen : bs.length = Config.frameLen
  · by_cases hsum : csum8 (bs.take Config.sumLen) = bs.getD Config.csumIdx 0#8
    · exact .inr (.inr ⟨hlen, hsum, validate_of_sum_eq hlen hsum⟩)
    · exact .inr (.inl ⟨hlen, hsum, validate_of_sum_ne hlen hsum⟩)
  · exact .inl ⟨hlen, validate_of_length_ne hlen⟩

theorem validate_eq_valid_iff {f : List Byte} :
    validate f = .valid f ↔ f.length = Config.frameLen ∧ csum8 (f.take Config.sumLen) = f.getD Config.csumIdx 0#8 := by
  obtain ⟨hlen, hv⟩ | ⟨_, hsum, hv⟩ | ⟨hlen, hsum, hv⟩ := validate_cases f
  · exact iff_of_false (by simp [hv]) fun h => hlen h.1
  · exact iff_of_false (by simp [hv]) fun h => hsum h.2
  · exact iff_of_true hv ⟨hlen, hsum⟩

/-- Settles O46. -/
theorem validateByLengthAndChecksum : Obligations.ValidateByLengthAndChecksum :=
  fun _ => ⟨fun hlen => validate_eq_valid_iff.trans (and_iff_right hlen), validate_of_length_ne⟩

/-- By how much the checksum of bytes 0..91 misses byte 92. -/
def checksumGap (f : List Byte) : Byte := csum8 (f.take Config.sumLen) - f.getD Config.csumIdx 0#8

theorem checksumGap_eq_zero_iff {f : List Byte} :
    checksumGap f = 0#8 ↔ csum8 (f.take Config.sumLen) = f.getD Config.csumIdx 0#8 := sub_eq_zero

theorem validate_eq_valid_iff_checksumGap {f : List Byte} (hlen : f.length = Config.frameLen) :
    validate f = .valid f ↔ checksumGap f = 0#8 :=
  validate_eq_valid_iff.trans ((and_iff_right hlen).trans checksumGap_eq_zero_iff.symm)

theorem length_of_valid {f : List Byte} (h : validate f = .valid f) : f.length = Config.frameLen :=
  (validate_eq_valid_iff.mp h).1

theorem checksumGap_of_valid {f : List Byte} (h : validate f = .valid f) : checksumGap f = 0#8 :=
  (validate_eq_valid_iff_checksumGap (length_of_valid h)).mp h

/-- A changed byte reads back, and every other byte reads as before. -/
theorem getD_set {f : List Byte} {i : Nat} (hi : i < f.length) (b : Byte) (j : Nat) :
    (f.set i b).getD j 0#8 = if j = i then b else f.getD j 0#8 := by
  simp only [List.getD_eq_getElem?_getD, List.getElem?_set]
  by_cases h : j = i
  · simp [h, hi]
  · simp [h, Ne.symm h]

/-- A change of a summed byte moves the gap by the difference of the two bytes. -/
theorem checksumGap_set_summed {f : List Byte} {i : Nat} (hlen : f.length = Config.frameLen)
    (hi : i < Config.sumLen) (b : Byte) : checksumGap (f.set i b) = checksumGap f + (b - f.getD i 0#8) := by
  have hsum : i < (f.take Config.sumLen).length := by grind
  have hkept : (f.set i b).getD Config.csumIdx 0#8 = f.getD Config.csumIdx 0#8 := by
    rw [getD_set (by grind), if_neg (by grind)]
  have hbyte : (f.take Config.sumLen).getD i 0#8 = f.getD i 0#8 := by
    simp [List.getD_eq_getElem?_getD, hi]
  rw [checksumGap, checksumGap, List.take_set, csum8_set hsum, hkept, hbyte]
  ring

/-- A change of the checksum byte moves the gap the other way. -/
theorem checksumGap_set_checksum {f : List Byte} (hlen : f.length = Config.frameLen) (b : Byte) :
    checksumGap (f.set Config.csumIdx b) = checksumGap f - (b - f.getD Config.csumIdx 0#8) := by
  have hsum : (f.set Config.csumIdx b).take Config.sumLen = f.take Config.sumLen := List.take_set_of_le (le_refl _)
  rw [checksumGap, checksumGap, hsum, getD_set (by grind), if_pos rfl]
  ring

/-- Settles O53: the gap moves from 0 by a difference that is not 0. -/
theorem singleByteChangeIsCaught : Obligations.SingleByteChangeIsCaught := by
  intro f i b hvalid hi hb
  have hlen := length_of_valid hvalid
  have hgap : checksumGap (f.set i b) ≠ 0#8 := by
    by_cases hsummed : i < Config.sumLen
    · rw [checksumGap_set_summed hlen hsummed, checksumGap_of_valid hvalid, BitVec.zero_add]
      exact sub_ne_zero.mpr hb
    · obtain rfl : i = Config.csumIdx := by grind
      rw [checksumGap_set_checksum hlen, checksumGap_of_valid hvalid, BitVec.zero_sub]
      exact neg_ne_zero.mpr (sub_ne_zero.mpr hb)
  exact validate_of_sum_ne (by simpa using hlen) (mt checksumGap_eq_zero_iff.mpr hgap)

/-- The summed bytes of a frame, one by one. -/
theorem take_sumLen_eq_map {f : List Byte} (hlen : f.length = Config.frameLen) :
    f.take Config.sumLen = (List.range Config.sumLen).map (f.getD · 0#8) := by
  apply List.ext_getElem
  · simp [hlen, Config.sumLen, Config.frameLen]
  · intro i hi _
    rw [List.getElem_take, List.getElem_map, List.getElem_range, List.getD_eq_getElem]

/-- The exact sum of the summed bytes (R90), as an integer. -/
def exactSum (f : List Byte) : Int := ((List.range Config.sumLen).map fun i => ((f.getD i 0#8).toNat : Int)).sum

theorem csum8_take_toNat {f : List Byte} (hlen : f.length = Config.frameLen) :
    ((csum8 (f.take Config.sumLen)).toNat : Int) = exactSum f % 256 := by
  rw [take_sumLen_eq_map hlen, csum8_toNat, exactSum, List.map_map]
  push_cast
  simp [Function.comp_def]

/-- The gap is 0 exactly when the exact sum and byte 92 are congruent modulo 256. -/
theorem checksumGap_eq_zero_iff_exactSum {f : List Byte} (hlen : f.length = Config.frameLen) :
    checksumGap f = 0#8 ↔ exactSum f % 256 = ((f.getD Config.csumIdx 0#8).toNat : Int) := by
  rw [checksumGap_eq_zero_iff, ← BitVec.toNat_inj, ← csum8_take_toNat hlen, Nat.cast_inj]

theorem sum_differences (f g : List Byte) :
    ((List.range Config.sumLen).map fun i => ((g.getD i 0#8).toNat : Int) - ((f.getD i 0#8).toNat : Int)).sum =
      exactSum g - exactSum f := by
  simpa [exactSum] using Multiset.sum_map_sub (m := ↑(List.range Config.sumLen))
    (f := fun i => ((g.getD i 0#8).toNat : Int)) (g := fun i => ((f.getD i 0#8).toNat : Int))

/-- Settles O54: `g` is missed exactly when its gap is 0, which is the gap of `f`; each kind of change named keeps it. -/
theorem cancellingChangesAreMissed : Obligations.CancellingChangesAreMissed := by
  refine ⟨fun f g hf hg => ?_, fun f g hf hg => ?_, fun f g hf hg hperm hlast => ?_, fun f i j d hf hi hj hij => ?_,
    fun f i d hf hi => ?_⟩
  · exact (validate_eq_valid_iff_checksumGap hg).trans (Eq.congr_right (checksumGap_of_valid hf).symm)
  · have hgap := (checksumGap_eq_zero_iff_exactSum (length_of_valid hf)).mp (checksumGap_of_valid hf)
    rw [validate_eq_valid_iff_checksumGap hg, checksumGap_eq_zero_iff_exactSum hg, sum_differences]
    have hf92 := (f.getD Config.csumIdx 0#8).isLt
    have hg92 := (g.getD Config.csumIdx 0#8).isLt
    simp only [Config.csumIdx] at *
    omega
  · have hsum := (validate_eq_valid_iff.mp hf).2
    exact validate_of_sum_eq hg (by rw [checksumLaws.1 _ _ hperm, hsum, hlast])
  · have hlen := length_of_valid hf
    rw [validate_eq_valid_iff_checksumGap (by simpa using hlen), checksumGap_set_summed (by simpa using hlen) hj,
      checksumGap_set_summed hlen hi, checksumGap_of_valid hf, getD_set (by grind), if_neg hij.symm]
    ring
  · have hlen := length_of_valid hf
    rw [validate_eq_valid_iff_checksumGap (by simpa using hlen), checksumGap_set_checksum (by simpa using hlen),
      checksumGap_set_summed hlen hi, checksumGap_of_valid hf, getD_set (by grind), if_neg (by grind)]
    ring

end Sys2Proof.Proofs

-- ---------------------------------------------------------------- the frame a sequence of operations offers (R77, R100)

namespace Sys2Proof.Proofs

open Sys2Proof.Machine Sys2Proof.Safety

/-- The state after a `PUSH` of each byte of a sequence in `RECV` (R77, R95). -/
def received (s : State) (bs : List Byte) : State := bs.foldl pushed s

theorem received_cons (s : State) (b : Byte) (bs : List Byte) : received s (b :: bs) = received (pushed s b) bs := rfl

theorem received_append_singleton (s : State) (bs : List Byte) (b : Byte) :
    received s (bs ++ [b]) = pushed (received s bs) b := List.foldl_append

@[simp] theorem received_status (s : State) (bs : List Byte) : (received s bs).status = s.status := by
  induction bs generalizing s with
  | nil => rfl
  | cons b rest ih => rw [received_cons, ih, pushed_status]

@[simp] theorem received_cmdPad (s : State) (bs : List Byte) : (received s bs).cmdPad = s.cmdPad := by
  induction bs generalizing s with
  | nil => rfl
  | cons b rest ih => rw [received_cons, ih, pushed_cmdPad]

@[simp] theorem received_issued (s : State) (bs : List Byte) : (received s bs).issued = s.issued := by
  induction bs generalizing s with
  | nil => rfl
  | cons b rest ih => rw [received_cons, ih, pushed_issued]

/-- The answer given before does not matter to a `PUSH`, which gives its own. -/
theorem received_after_response (s : State) (bs : List Byte) (r r' : Option Response) :
    { received { s with resp := r } bs with resp := r' } = { received s bs with resp := r' } := by
  cases bs <;> rfl

theorem pushedByte_eq_none {i : Instr} (h : ∀ b, i ≠ .push b) : pushedByte i = none := by
  cases i with
  | push b => exact absurd rfl (h b)
  | _ => rfl

/-- Between `CLEAR` and `END` a sequence of operations receives the bytes it offers, and leaves some answer: by induction
on it, every operation being a `PUSH` or one that only answers (R51). -/
theorem execSeq_receives {ops : List Instr} {s : State} (hs : s.status = .recv) (hclear : .clear ∉ ops)
    (hend : .endFrame ∉ ops) : ∃ r, execSeq ops s = .next { received s (pushedBytes ops) with resp := r } := by
  induction ops generalizing s with
  | nil => exact ⟨s.resp, rfl⟩
  | cons i rest ih =>
    obtain ⟨hi, hrestClear⟩ := not_or.mp (List.mem_cons.not.mp hclear)
    obtain ⟨hi', hrestEnd⟩ := not_or.mp (List.mem_cons.not.mp hend)
    by_cases hpush : ∃ b, i = .push b
    · obtain ⟨b, rfl⟩ := hpush
      obtain ⟨r, hrest⟩ := ih (s := pushed s b) hs hrestClear hrestEnd
      exact ⟨r, (execSeq_cons (exec_push_of_recv b hs)).trans hrest⟩
    · have hpush : ∀ b, i ≠ .push b := not_exists.mp hpush
      obtain ⟨r, hanswer⟩ := exists_answers_of_not_writer s (Ne.symm hi) (Ne.symm hi') hpush
      obtain ⟨r', hrest⟩ := ih (s := { s with resp := some r }) hs hrestClear hrestEnd
      have hoffers : pushedBytes (i :: rest) = pushedBytes rest := List.filterMap_cons_none (pushedByte_eq_none hpush)
      exact ⟨r', by rw [execSeq_cons hanswer, hrest, received_after_response, hoffers]⟩

/-- The state after `FRAME bs` (R77): the bytes received from the start of a frame, and the verdict on them. -/
def framed (s : State) (bs : List Byte) : State :=
  (received s.startFrame bs).conclude (verdictOf (received s.startFrame bs))

/-- R100: `CLEAR`, any operations but `CLEAR` and `END`, and `END` end as the `FRAME` of the offered bytes does; `END`
writes its own answer over the last one. -/
theorem execSeq_clear_end {ops : List Instr} (s : State) (hclear : .clear ∉ ops) (hend : .endFrame ∉ ops) :
    execSeq (.clear :: (ops ++ [.endFrame])) s = .next (framed s (pushedBytes ops)) := by
  obtain ⟨r, hops⟩ := execSeq_receives s.startFrame_status hclear hend
  rw [execSeq_cons (exec_clear s), execSeq_append hops]
  have hrecv : (received s.startFrame (pushedBytes ops)).status = .recv := received_status _ _
  exact execSeq_cons (exec_endFrame_verdictOf hrecv)

theorem execSeq_frameOps (bs : List Byte) (s : State) : execSeq (frameOps bs) s = .next (framed s bs) := by
  have hframe := execSeq_clear_end (ops := pushN bs) s (by simp [pushN]) (by simp [pushN])
  rwa [pushedBytes_pushN] at hframe

/-- Settles O48: both sequences end in the state that the offered bytes determine. -/
theorem interleavedOperationsKeepVerdict : Obligations.InterleavedOperationsKeepVerdict :=
  fun ops s hclear hend => ⟨_, execSeq_clear_end s hclear hend, execSeq_frameOps (pushedBytes ops) s⟩

-- ---------------------------------------------------------------- the bytes received since the start of a frame

/-- A state that has received the bytes `bs` since the start of a frame: they are counted up to 94, stored up to address
92, and summed as R23 says. -/
structure Receiving (bs : List Byte) (s : State) : Prop where
  count  : s.cnt.toNat = min bs.length Config.cntSat
  stored : ∀ i < min bs.length Config.frameLen, s.fb.read i = bs.getD i 0#8
  summed : s.acc = receivedSum s

theorem receiving_startFrame (s : State) : Receiving [] s.startFrame where
  count := rfl
  stored := by simp
  summed := (receivedSum_of_cnt_zero rfl).symm

/-- A `PUSH` receives one byte more. -/
theorem receiving_pushed {bs : List Byte} {s : State} (h : Receiving bs s) (b : Byte) :
    Receiving (bs ++ [b]) (pushed s b) where
  count := by
    rw [pushed_cnt, cntAfterPush_toNat, h.count]
    grind
  stored := by
    intro i hi
    rw [pushed_read, h.count]
    by_cases hnew : i = bs.length
    · subst hnew
      rw [if_pos (by grind), List.getD_append_right _ _ _ _ (le_refl _)]
      simp
    · rw [if_neg (by grind), h.stored i (by grind), List.getD_append _ _ _ _ (by grind)]
  summed := receivedSum_pushed s b h.summed

/-- By induction on the sequence, its last byte the last received. -/
theorem receiving_received (s : State) (bs : List Byte) : Receiving bs (received s.startFrame bs) := by
  induction bs using List.reverseRecOn with
  | nil => exact receiving_startFrame s
  | append_singleton bs b ih =>
    rw [received_append_singleton]
    exact receiving_pushed ih b

/-- With 93 bytes received all of `FB` holds them. -/
theorem receiving_read {bs : List Byte} {s : State} (h : Receiving bs s) (hlen : bs.length = Config.frameLen) {i : Nat}
    (hi : i < Config.frameLen) : s.fb.read i = bs.getD i 0#8 :=
  h.stored i (by rwa [hlen, Nat.min_self])

/-- With 93 bytes received `ACC` is the checksum of the first 92. -/
theorem receiving_acc {bs : List Byte} {s : State} (h : Receiving bs s) (hlen : bs.length = Config.frameLen) :
    s.acc = csum8 (bs.take Config.sumLen) := by
  have hcount : min s.cnt.toNat Config.sumLen = Config.sumLen := by rw [h.count, hlen]; rfl
  have hbytes : s.fb.bytes 0 Config.sumLen = bs.take Config.sumLen := by
    rw [take_sumLen_eq_map hlen]
    refine List.map_congr_left fun i hi => ?_
    rw [Nat.zero_add, receiving_read h hlen (by grind)]
  rw [h.summed, receivedSum, hcount, hbytes]

/-- The verdict that stands for an answer of `VALIDATE` (R91, R96). -/
def verdictOfValidation : Validation → Verdict
  | .lengthError => .lengthError
  | .checksumError => .checksumError
  | .valid _ => .valid

/-- R100: the verdict on the received bytes is the one `VALIDATE` gives. -/
theorem verdictOf_receiving {bs : List Byte} {s : State} (h : Receiving bs s) :
    verdictOf s = verdictOfValidation (validate bs) := by
  obtain ⟨hlen, hv⟩ | ⟨hlen, hsum, hv⟩ | ⟨hlen, hsum, hv⟩ := validate_cases bs <;> rw [hv]
  · exact verdictOf_of_length_ne (by rw [h.count]; grind)
  · refine verdictOf_of_sum_ne (by rw [h.count, hlen]; rfl) ?_
    rwa [receiving_acc h hlen, receiving_read h hlen (by decide)]
  · refine verdictOf_of_sum_eq (by rw [h.count, hlen]; rfl) ?_
    rwa [receiving_acc h hlen, receiving_read h hlen (by decide)]

theorem framed_eq_conclude (s : State) (bs : List Byte) :
    framed s bs = (received s.startFrame bs).conclude (verdictOfValidation (validate bs)) := by
  rw [framed, verdictOf_receiving (receiving_received s bs)]

@[simp] theorem framed_status (s : State) (bs : List Byte) :
    (framed s bs).status = (verdictOfValidation (validate bs)).status := by
  rw [framed_eq_conclude, State.conclude_status]

@[simp] theorem framed_resp (s : State) (bs : List Byte) :
    (framed s bs).resp = some (verdictOfValidation (validate bs)).response := by
  rw [framed_eq_conclude, State.conclude_resp]

/-- A frame of 93 bytes stands in `FB`, whatever the verdict. -/
theorem framed_read (s : State) {bs : List Byte} (hlen : bs.length = Config.frameLen) {i : Nat}
    (hi : i < Config.frameLen) : (framed s bs).fb.read i = bs.getD i 0#8 :=
  receiving_read (receiving_received s bs) hlen hi

/-- Settles O47: the state after `FRAME` records the verdict of `VALIDATE` on what it received. -/
theorem frameMatchesValidate : Obligations.FrameMatchesValidate := by
  refine fun bs s => ⟨framed s bs, execSeq_frameOps bs s, received_cmdPad _ _, received_issued _ _, ?_⟩
  have hstatus := framed_status s bs
  have hresp := framed_resp s bs
  obtain ⟨_, hv⟩ | ⟨_, _, hv⟩ | ⟨hlen, _, hv⟩ := validate_cases bs <;> rw [hv] at hstatus hresp ⊢
  · exact ⟨hstatus, hresp⟩
  · exact ⟨hstatus, hresp⟩
  · exact ⟨hstatus, ⟨_, hresp⟩, fun i hi => framed_read s hlen hi⟩

end Sys2Proof.Proofs

-- ---------------------------------------------------------------- the responses of READALL (R77, R125)

namespace Sys2Proof.Proofs

open Sys2Proof.Machine

/-- What the read of a field answers (R125, R141). -/
def fieldAnswer (s : State) (f : Field) : Response :=
  if s.status = .valid then .ok (f.kind.present (f.rawOf s.fb.read)) else .notValid

theorem exec_fieldAnswer {i : Instr} {f : Field} (h : fieldOf i = some f) (s : State) :
    exec i s = .next (s.respond (fieldAnswer s f)) := exec_eq_of_fieldOf h s

/-- Reads of fields answer each its field, by induction on the sequence: an answer changes nothing a read looks at. -/
theorem responses_of_fields {ops : List Instr} {fs : List Field} (h : ops.map fieldOf = fs.map some) (s : State) :
    responses ops s = fs.map (fieldAnswer s) := by
  induction ops generalizing fs s with
  | nil =>
    obtain rfl : fs = [] := List.map_eq_nil_iff.mp h.symm
    rfl
  | cons i rest ih =>
    cases fs with
    | nil => cases h
    | cons f fs =>
      obtain ⟨hi, hrest⟩ := List.cons_eq_cons.mp h
      simp only [responses, exec_fieldAnswer hi, ih hrest]
      rfl

/-- `READALL` reads the fields of the table in order (R62, R77). -/
theorem responses_readAll (s : State) : responses readAll s = fieldTable.map (fieldAnswer s) :=
  responses_of_fields rfl s

/-- Outside `VALID` no response of `READALL` is OK, and there is no Reading. -/
theorem readingOfResponses_readAll_of_ne_valid {s : State} (hs : s.status ≠ .valid) :
    readingOfResponses (responses readAll s) = none := by
  have hanswer : fieldAnswer s = fun _ => .notValid := funext fun _ => if_neg hs
  rw [responses_readAll, hanswer]
  rfl

-- ---------------------------------------------------------------- each component of the Reading, from its response (R110, R194)

theorem rawOf_one {f : Field} (hn : f.n = 1) (g : Nat → Byte) : f.rawOf g = (g f.lo).toNat := by
  simp [Field.rawOf, hn, bigEndian]

theorem rawData_raw_toNat (b : Byte) : (rawData b.toNat).raw.toNat = b.toNat :=
  zext32_toNat (by omega)

/-- A field of one byte that is answered raw: the response holds the byte as a number. -/
theorem raw_of_rawData {f : Field} (hn : f.n = 1) (hkind : f.kind.present = rawData) (g : Nat → Byte) :
    (f.kind.present (f.rawOf g)).raw.toNat = (g f.lo).toNat := by
  rw [hkind, rawOf_one hn, rawData_raw_toNat]

/-- A field of one byte that is answered raw: the byte comes back. -/
theorem rawByte_of_rawData {f : Field} (hn : f.n = 1) (hkind : f.kind.present = rawData) (g : Nat → Byte) :
    (f.kind.present (f.rawOf g)).rawByte = g f.lo := by
  apply BitVec.eq_of_toNat_eq
  rw [RespData.rawByte, BitVec.toNat_setWidth, raw_of_rawData hn hkind]
  omega

/-- A code of the list comes back through `sel`, any other through `known = 0` (R119). -/
theorem batteryType_enumData (v : Nat) : (enumData 4 v).batteryType = batteryTypeOf v := by
  match v with
  | 0 | 1 | 2 | 3 => rfl
  | v + 4 => simp [enumData, RespData.batteryType, batteryTypeOf]

theorem batteryIdMethod_twoWayData (v : Nat) : (twoWayData v).batteryIdMethod = batteryIdMethodOf v := by
  match v with
  | 0 => rfl
  | v + 1 => rfl

theorem loadControlMode_enumData (v : Nat) : (enumData 5 v).loadControlMode = loadControlModeOf v := by
  match v with
  | 0 | 1 | 2 | 3 | 4 => rfl
  | v + 5 => simp [enumData, RespData.loadControlMode, loadControlModeOf]

theorem baudRate_baudData (v : Nat) : (baudData v).baudRate = baudRateOf v := by
  match v with
  | 0 | 1 | 2 | 3 | 4 => rfl
  | v + 5 => simp [baudData, RespData.baudRate, baudRateOf]

/-- The widths of R28 hold what a field of the table can carry: `n` bytes in `raw`, the quotient in `ipart`, the
remainder in `fpart` (R142). -/
theorem fieldTable_fits : ∀ f ∈ fieldTable,
    256 ^ f.n ≤ 2 ^ 32 ∧ 256 ^ f.n ≤ f.scale * 2 ^ 23 ∧ 0 < f.scale ∧ f.scale ≤ 2 ^ 10 := by decide

theorem rawOf_lt (f : Field) (g : Nat → Byte) : f.rawOf g < 256 ^ f.n := by
  simpa [Field.rawOf] using bigEndian_lt ((List.range f.n).map fun j => g (f.lo + j))

/-- A scaled value comes back without loss (R140 to R142). -/
theorem scaled_of_scaledData {f : Field} (hf : f ∈ fieldTable) (hkind : f.kind.present = scaledData f.scale)
    (g : Nat → Byte) : (f.kind.present (f.rawOf g)).scaled f = f.scaledOf g := by
  obtain ⟨hraw, hipart, hpos, hfpart⟩ := fieldTable_fits f hf
  have hlt := rawOf_lt f g
  have hquot : f.rawOf g / f.scale < 2 ^ 23 := Nat.div_lt_of_lt_mul (by omega)
  have hrem : f.rawOf g % f.scale < 2 ^ 10 := (Nat.mod_lt _ hpos).trans_le hfpart
  simp only [hkind, scaledData, RespData.scaled, Field.scaledOf, scaledValue, zext32_toNat (hlt.trans_le hraw),
    BitVec.toNat_ofNat, Nat.mod_eq_of_lt hquot, Nat.mod_eq_of_lt hrem]

/-- R110, R125: in `VALID` the responses of `READALL` give the components of `decode(FB)`, field by field. -/
theorem readingOfResponses_readAll_of_valid {s : State} (hs : s.status = .valid) :
    readingOfResponses (responses readAll s) = some (decodeReading s.fb.read) := by
  have hanswer : fieldAnswer s = fun f => .ok (f.kind.present (f.rawOf s.fb.read)) := funext fun _ => if_pos hs
  rw [responses_readAll, hanswer]
  generalize s.fb.read = g
  simp only [fieldTable, List.map, readingOfResponses, decodeReading, Option.some.injEq, Reading.mk.injEq]
  refine ⟨rawByte_of_rawData rfl rfl g, rawByte_of_rawData rfl rfl g, rawByte_of_rawData rfl rfl g,
    congrArg statusFlags (raw_of_rawData rfl rfl g), congrArg statusFlags (raw_of_rawData rfl rfl g),
    rawByte_of_rawData rfl rfl g, congrArg controlFlags (raw_of_rawData rfl rfl g),
    (batteryType_enumData _).trans (congrArg batteryTypeOf (rawOf_one rfl g)),
    (batteryIdMethod_twoWayData _).trans (congrArg batteryIdMethodOf (rawOf_one rfl g)),
    rawByte_of_rawData rfl rfl g,
    (loadControlMode_enumData _).trans (congrArg loadControlModeOf (rawOf_one rfl g)),
    rawByte_of_rawData rfl rfl g,
    (baudRate_baudData _).trans (congrArg baudRateOf (rawOf_one rfl g)), ?_, ?_, ?_, ?_, ?_, ?_, ?_, ?_, ?_, ?_, ?_,
    ?_, ?_, ?_⟩
  all_goals exact scaled_of_scaledData (by decide) rfl g

/-- `decode` looks at the bytes of the frame only: every field of the table lies inside it (R110). -/
theorem decodeReading_congr {f g : Nat → Byte} (h : ∀ i < Config.frameLen, f i = g i) :
    decodeReading f = decodeReading g := by
  have hscaled : ∀ fd ∈ fieldTable, fd.scaledOf f = fd.scaledOf g := by
    intro fd hfd
    have hinside := fieldTable_inside fd hfd
    have hraw : fd.rawOf f = fd.rawOf g := congrArg bigEndian (List.map_congr_left fun j hj => h _ (by grind))
    rw [Field.scaledOf, Field.scaledOf, hraw]
  have hbyte : ∀ i < 93, f i = g i := h
  simp only [fieldTable, List.forall_mem_cons] at hscaled
  simp [decodeReading, hbyte, hscaled]

/-- Settles O50: a Reading exists exactly after the verdict `valid`, and is that of the frame that stands in `FB`. -/
theorem frameThenReadAllIsDecodeOfValidate : Obligations.FrameThenReadAllIsDecodeOfValidate := by
  refine fun bs s => ⟨framed s bs, execSeq_frameOps bs s, ?_⟩
  have hstatus := framed_status s bs
  obtain ⟨_, hv⟩ | ⟨_, _, hv⟩ | ⟨hlen, _, hv⟩ := validate_cases bs <;> rw [hv] at hstatus ⊢
  · exact readingOfResponses_readAll_of_ne_valid (hstatus.trans_ne (by decide))
  · exact readingOfResponses_readAll_of_ne_valid (hstatus.trans_ne (by decide))
  · rw [readingOfResponses_readAll_of_valid hstatus, decodeReading_congr fun i hi => framed_read s hlen hi]

end Sys2Proof.Proofs

-- ---------------------------------------------------------------- RDBYTE and the single-byte reads, rule by rule (R111 to R124)

namespace Sys2Proof.Proofs

open Sys2Proof.Machine Sys2Proof.Safety

/-- Settles O29: a read in `VALID` looks at its footprint and at nothing else. -/
theorem readsDependOnTheirBytesOnly : Obligations.ReadsDependOnTheirBytesOnly :=
  fun _ _ _ hread hs ht hbytes => exec_read_agree hread (hs.trans ht.symm) fun _ a ha _ => hbytes a ha

/-- The 32-bit word of a byte's number is the byte with zeros above it (R11). -/
theorem zext32_byte (b : Byte) : zext32 b.toNat = b.setWidth 32 := BitVec.ofNat_toNat 32 b

/-- A byte answered raw (R112 to R118, R121, R123). -/
theorem rawData_byte (b : Byte) : rawData b.toNat = { raw := b.setWidth 32, known := true } := by
  rw [rawData, zext32_byte]

/-- Settles O9: the gate, then the index, then the byte. -/
theorem rdbyteAnswersByte : Obligations.RdbyteAnswersByte := by
  refine fun i s => ⟨fun hs => ?_, fun hs hi => ?_, fun hs => (answers_rdbyte_indexRange_iff i hs).mpr⟩
  · rw [Answers, exec_rdbyte, if_neg hs]
    rfl
  · rw [Answers, exec_rdbyte, if_pos hs, if_pos hi, rawData_byte]
    rfl

/-- In `VALID` the read of a field of one byte answers that byte as the field's kind presents it (R67, R125). -/
theorem answers_byte_field {i : Instr} {f : Field} (h : fieldOf i = some f) (hn : f.n = 1) {s : State}
    (hs : s.status = .valid) : Answers i s (.ok (f.kind.present (s.fb.read f.lo).toNat)) := by
  rw [Answers, exec_fieldAnswer h, fieldAnswer, if_pos hs, rawOf_one hn]
  rfl

/-- In `VALID` the read of a raw field of one byte answers that byte. -/
theorem answers_raw_field {i : Instr} {f : Field} (h : fieldOf i = some f) (hn : f.n = 1)
    (hkind : f.kind.present = rawData) {s : State} (hs : s.status = .valid) :
    Answers i s (.ok { raw := (s.fb.read f.lo).setWidth 32, known := true }) := by
  rw [← rawData_byte, ← hkind]
  exact answers_byte_field h hn hs

/-- Settles O10. -/
theorem identityReadsAnswerTheirBytes : Obligations.IdentityReadsAnswerTheirBytes :=
  fun _ hs => ⟨answers_raw_field (f := .address) rfl rfl rfl hs, answers_raw_field (f := .commandType) rfl rfl rfl hs,
    answers_raw_field (f := .controlCode) rfl rfl rfl hs⟩

/-- Settles O11. -/
theorem rawConfigurationReadsAnswerTheirBytes : Obligations.RawConfigurationReadsAnswerTheirBytes :=
  fun _ hs => ⟨answers_raw_field (f := .numberOfBatteries) rfl rfl rfl hs,
    answers_raw_field (f := .mpptAddressConfirm) rfl rfl rfl hs⟩

-- ---------------------------------------------------------------- flags (R68, R116 to R118)

theorem setWidth_byte_toNat (b : Byte) : (b.setWidth 32).toNat = b.toNat :=
  BitVec.toNat_setWidth_of_le (by decide)

/-- Flag `i` of a byte is its bit `i`, bit 0 the least significant (R9, D11). -/
theorem flag_byte (b : Byte) (i : Nat) : flag b.toNat i = b.getLsbD i := by
  rw [BitVec.getLsbD, Nat.testBit_eq_decide_div_mod_eq]
  rfl

/-- Place `i` of the flags of a status byte is flag `i` (R68). -/
theorem statusFlags_getElem (v : Nat) (i : Fin 8) : (statusFlags v)[i] = flag v i := by
  match i with
  | 0 | 1 | 2 | 3 | 4 | 5 | 6 | 7 => rfl

theorem statusFlags_byte (b : Byte) (i : Fin 8) : (statusFlags (b.setWidth 32).toNat)[i] = b.getLsbD i := by
  rw [setWidth_byte_toNat, statusFlags_getElem, flag_byte]

/-- The named flags of a byte are its bits 0, 1, 2, 4 and 5 (R118, D14). -/
theorem controlFlags_byte (b : Byte) :
    controlFlags (b.setWidth 32).toNat =
      ⟨b.getLsbD 0, b.getLsbD 1, b.getLsbD 2, b.getLsbD 4, b.getLsbD 5⟩ := by
  simp only [setWidth_byte_toNat, controlFlags, flag_byte]

/-- Settles O12. -/
theorem statusFlagReadsAnswerTheirBits : Obligations.StatusFlagReadsAnswerTheirBits :=
  fun _ hs =>
    ⟨⟨_, answers_raw_field (f := .operatingStatus) rfl rfl rfl hs, setWidth_byte_toNat _, statusFlags_byte _⟩,
      ⟨_, answers_raw_field (f := .chargingStatus) rfl rfl rfl hs, setWidth_byte_toNat _, statusFlags_byte _⟩⟩

/-- Settles O13. -/
theorem controlStatusReadAnswersNamedFlags : Obligations.ControlStatusReadAnswersNamedFlags := by
  refine fun s hs =>
    ⟨_, answers_raw_field (f := .controlStatus) rfl rfl rfl hs, setWidth_byte_toNat _, ?_⟩
  rw [controlFlags_byte]
  exact ⟨rfl, rfl, rfl, rfl, rfl⟩

-- ---------------------------------------------------------------- enumerations (R70, R119, R120, R122, R124)

/-- A zero-based enumeration with the codes 0 to `last` (R119, R122, D15). -/
theorem enumData_byte (last : Nat) (b : Byte) :
    enumData (last + 1) b.toNat =
      if b.toNat ≤ last then { raw := b.setWidth 32, known := true, sel := b.setWidth 3 }
      else { raw := b.setWidth 32, known := false, sel := 0#3 } := by
  simp only [enumData, Nat.lt_succ_iff, zext32_byte, BitVec.ofNat_toNat]

theorem twoWayData_byte (b : Byte) :
    twoWayData b.toNat = { raw := b.setWidth 32, known := true, sel := if b = 0#8 then 0#3 else 1#3 } := by
  have hzero : b.toNat = 0 ↔ b = 0#8 := BitVec.toNat_inj (y := 0#8)
  simp only [twoWayData, hzero, zext32_byte]

/-- The four codes of R124 one by one; the number of any other code is none of 1 to 4. -/
theorem baudData_byte (b : Byte) :
    baudData b.toNat =
      if b = 1#8 then { raw := 1#32, known := true, sel := 0#3, ipart := 1200#23 }
      else if b = 2#8 then { raw := 2#32, known := true, sel := 1#3, ipart := 2400#23 }
      else if b = 3#8 then { raw := 3#32, known := true, sel := 2#3, ipart := 4800#23 }
      else if b = 4#8 then { raw := 4#32, known := true, sel := 3#3, ipart := 9600#23 }
      else { raw := b.setWidth 32, known := false, sel := 0#3, ipart := 0#23 } := by
  split_ifs with hb hb hb hb
  · rw [hb]; rfl
  · rw [hb]; rfl
  · rw [hb]; rfl
  · rw [hb]; rfl
  · have hother : ¬ (1 ≤ b.toNat ∧ b.toNat ≤ 4) := by bv_omega
    rw [baudData, if_neg hother, zext32_byte]

/-- Settles O14. -/
theorem zeroBasedEnumerationReads : Obligations.ZeroBasedEnumerationReads := by
  intro s hs
  rw [← enumData_byte, ← enumData_byte]
  exact ⟨answers_byte_field (f := .batteryType) rfl rfl hs, answers_byte_field (f := .loadControlMode) rfl rfl hs⟩

/-- Settles O15. -/
theorem batteryIdMethodRead : Obligations.BatteryIdMethodRead := by
  intro s hs
  rw [← twoWayData_byte]
  exact answers_byte_field (f := .batteryIdMethod) rfl rfl hs

/-- Settles O16. -/
theorem baudRateRead : Obligations.BaudRateRead := by
  intro s hs
  rw [← baudData_byte]
  exact answers_byte_field (f := .baudRate) rfl rfl hs

end Sys2Proof.Proofs

-- ---------------------------------------------------------------- the Reading of the frame in FB (R110, R126)

namespace Sys2Proof.Proofs

open Sys2Proof.Machine

/-- Settles O49. -/
theorem readAllYieldsReading : Obligations.ReadAllYieldsReading := fun _ hs => readingOfResponses_readAll_of_valid hs

/-- After a valid frame `READALL` gives `decode` of it (R100, R110). -/
theorem framed_reading {bs : List Byte} (h : validate bs = .valid bs) (s : State) :
    (framed s bs).status = .valid ∧
      readingOfResponses (responses readAll (framed s bs)) = some (decodeReading (bs.getD · 0#8)) := by
  have hstatus : (framed s bs).status = .valid := by rw [framed_status, h]; rfl
  rw [readingOfResponses_readAll_of_valid hstatus,
    decodeReading_congr fun i hi => framed_read s (length_of_valid h) hi]
  exact ⟨hstatus, rfl⟩

theorem getD_zeros (n i : Nat) : (List.replicate n (0#8 : Byte)).getD i 0#8 = 0#8 := by
  rw [List.getD_eq_getElem?_getD, List.getElem?_getD_replicate_default_eq]

/-- A frame of zeros is valid (R126): zeros sum to 0. -/
theorem validate_zeros :
    validate (List.replicate Config.frameLen 0#8) = .valid (List.replicate Config.frameLen 0#8) := by
  refine validate_of_sum_eq List.length_replicate ?_
  rw [List.take_replicate, csum8_eq_sum, List.sum_replicate, getD_zeros]
  exact smul_zero _

/-- Settles O51: the Reading is `decode` of the frame whose every byte is 0, a closed value. -/
theorem allZeroFrameDecodes : Obligations.AllZeroFrameDecodes := by
  intro s
  obtain ⟨hstatus, hreading⟩ := framed_reading validate_zeros s
  simp only [getD_zeros] at hreading
  refine ⟨framed s _, execSeq_frameOps _ s, hstatus, _, hreading, ?_⟩
  decide

end Sys2Proof.Proofs

-- ---------------------------------------------------------------- the scaled reads (R140 to R157)

namespace Sys2Proof.Proofs

open Sys2Proof.Machine Sys2Proof.Safety

/-- In `VALID` the read of a field answers its bytes as the field's kind presents them (R67, R125, R141). -/
theorem answers_field {i : Instr} {f : Field} (h : fieldOf i = some f) {s : State} (hs : s.status = .valid) :
    Answers i s (.ok (f.kind.present (f.rawOf s.fb.read))) := by
  rw [Answers, exec_fieldAnswer h, fieldAnswer, if_pos hs]
  rfl

/-- The common body of R141: in `VALID` the read of a scaled field answers the exact triple of its bytes. No width of
R28 cuts a part of it off (`scaled_of_scaledData`). -/
theorem answersScaled_field {i : Instr} {f : Field} {scale : Nat} {u : PhysUnit} (h : fieldOf i = some f)
    (hkind : f.kind = .scaled scale u) {s : State} (hs : s.status = .valid) :
    AnswersScaled i s scale (bigEndian (s.fb.bytes f.lo f.n)) := by
  obtain rfl : f.scale = scale := by rw [Field.scale, hkind]
  have hpresent : f.kind.present = scaledData f.scale := by rw [hkind]; rfl
  have hanswer := answers_field h hs
  have htriple := scaled_of_scaledData (fieldOf_eq_some h).1 hpresent s.fb.read
  rw [hpresent] at hanswer htriple
  obtain ⟨hraw, hipart, hfpart, _⟩ := ScaledValue.mk.inj htriple
  exact ⟨_, hanswer, hraw, hipart, hfpart, rfl, rfl, rfl⟩

/-- Settles O20: quotient and remainder give back the value they are taken of, which is a number of `n` bytes. -/
theorem scaledReadsLoseNothing : Obligations.ScaledReadsLoseNothing := by
  intro i f scale u s h hkind hs
  obtain ⟨d, hanswer, hraw, hipart, hfpart, _⟩ := answersScaled_field h hkind hs
  have hpos : 0 < scale := by
    obtain ⟨_, _, hpos, _⟩ := fieldTable_fits f (fieldOf_eq_some h).1
    rwa [Field.scale, hkind] at hpos
  have hfits : bigEndian (s.fb.bytes f.lo f.n) < 256 ^ f.n := rawOf_lt f s.fb.read
  refine ⟨d, hanswer, ?_, ?_, ?_, hraw⟩
  · rw [hipart, hfpart, hraw, Nat.div_add_mod']
  · rw [hfpart]
    exact Nat.mod_lt _ hpos
  · rwa [hraw]

/-- The read of a scaled field of two bytes, the first one the more significant (R46, R141). -/
theorem answersScaled_two_bytes {i : Instr} {f : Field} {scale : Nat} {u : PhysUnit} (h : fieldOf i = some f)
    (hkind : f.kind = .scaled scale u) (hn : f.n = 2) {s : State} (hs : s.status = .valid) :
    AnswersScaled i s scale (256 * (s.fb.read f.lo).toNat + (s.fb.read (f.lo + 1)).toNat) := by
  rw [← Memory.bigEndian_bytes_two, ← hn]
  exact answersScaled_field h hkind hs

/-- The read of a scaled field of four bytes, the first one the most significant (R46, R141). -/
theorem answersScaled_four_bytes {i : Instr} {f : Field} {scale : Nat} {u : PhysUnit} (h : fieldOf i = some f)
    (hkind : f.kind = .scaled scale u) (hn : f.n = 4) {s : State} (hs : s.status = .valid) :
    AnswersScaled i s scale (16777216 * (s.fb.read f.lo).toNat + 65536 * (s.fb.read (f.lo + 1)).toNat +
      256 * (s.fb.read (f.lo + 2)).toNat + (s.fb.read (f.lo + 3)).toNat) := by
  rw [← Memory.bigEndian_bytes_four, ← hn]
  exact answersScaled_field h hkind hs

/-- Settles O17. -/
theorem hundredthsReads : Obligations.HundredthsReads :=
  fun _ hs => ⟨answersScaled_two_bytes (f := .ratedVoltageLevel) rfl rfl rfl hs,
    answersScaled_two_bytes (f := .upperChargeVoltage) rfl rfl rfl hs,
    answersScaled_two_bytes (f := .floatVoltageLimit) rfl rfl rfl hs,
    answersScaled_two_bytes (f := .lowVoltageDischargeLimit) rfl rfl rfl hs,
    answersScaled_two_bytes (f := .hardwareMaxChargingCurrentLimit) rfl rfl rfl hs,
    answersScaled_two_bytes (f := .definedChargeLimit) rfl rfl rfl hs,
    answersScaled_two_bytes (f := .runningChargingCurrentLimit) rfl rfl rfl hs,
    answersScaled_two_bytes (f := .batteryVoltage) rfl rfl rfl hs,
    answersScaled_two_bytes (f := .chargingCurrent) rfl rfl rfl hs⟩

/-- Settles O18. -/
theorem tenthsReads : Obligations.TenthsReads :=
  fun _ hs => ⟨answersScaled_two_bytes (f := .pvVoltageIn) rfl rfl rfl hs,
    answersScaled_two_bytes (f := .internalTemperature) rfl rfl rfl hs,
    answersScaled_two_bytes (f := .externalTemperature) rfl rfl rfl hs⟩

/-- Settles O19. -/
theorem thousandthsReads : Obligations.ThousandthsReads :=
  fun _ hs => ⟨answersScaled_four_bytes (f := .energyToday) rfl rfl rfl hs,
    answersScaled_four_bytes (f := .totalEnergyGenerated) rfl rfl rfl hs⟩

/-- Settles O21: `raw = ipart * S + fpart`, divided by `S`. -/
theorem scaledTripleDenotesQuotient : Obligations.ScaledTripleDenotesQuotient := by
  intro scale raw hpos
  have hscale : (scale : Rat) ≠ 0 := by exact_mod_cast hpos.ne'
  refine ⟨rfl, Nat.mod_lt raw hpos, rfl, ?_⟩
  calc (raw : Rat) / scale
      = (((raw / scale : Nat) : Rat) * scale + ((raw % scale : Nat) : Rat)) / scale := by
        rw [← Nat.cast_mul, ← Nat.cast_add, Nat.div_add_mod']
    _ = ((raw / scale : Nat) : Rat) + ((raw % scale : Nat) : Rat) / scale := by
        rw [add_div, mul_div_cancel_right₀ _ hscale]

end Sys2Proof.Proofs

-- ---------------------------------------------------------------- the response codes and who raises them (R170, R173)

namespace Sys2Proof.Proofs

open Sys2Proof.Machine Sys2Proof.Safety

/-- Settles O57. -/
theorem responseCodeNumbers : Obligations.ResponseCodeNumbers := by
  refine ⟨fun _ => rfl, rfl, rfl, rfl, rfl, rfl, rfl, fun r => ?_⟩
  cases r <;> simp [Response.rc]

/-- Settles O22: `RDBYTE` by its own rule, the read of a field by its answer outside `VALID`. -/
theorem gateRefusesEveryRead : Obligations.GateRefusesEveryRead := by
  intro i s hread hs
  obtain ⟨a, rfl⟩ | ⟨f, hf⟩ := isRead_iff.mp hread
  · exact (rdbyteAnswersByte a s).1 hs
  · rw [Answers, exec_fieldAnswer hf, fieldAnswer, if_neg hs]
    rfl

/-- The column "raised by" of R170: which operation may answer which response. No operation answers ILLEGAL_OP. -/
inductive Raises : Instr → Response → Prop
  | ok (i : Instr) (d : RespData) : Raises i (.ok d)
  | lengthError : Raises .endFrame .lengthError
  | checksumError : Raises .endFrame .checksumError
  | notValid {i : Instr} (hread : isRead i = true) : Raises i .notValid
  | pushNotReceiving (b : Byte) : Raises (.push b) .notReceiving
  | endNotReceiving : Raises .endFrame .notReceiving
  | indexRange (a : Byte) : Raises (.rdbyte a) .indexRange

theorem raises_verdict (v : Verdict) : Raises .endFrame v.response := by
  cases v with
  | valid => exact .ok _ _
  | lengthError => exact .lengthError
  | checksumError => exact .checksumError

/-- A read answers data, NOT_VALID, or INDEX_RANGE if it is `RDBYTE`. -/
theorem exec_read_raises {i : Instr} (s : State) (hi : isRead i = true) :
    ∃ t r, exec i s = .next t ∧ t.resp = some r ∧ Raises i r := by
  by_cases hs : s.status = .valid
  · obtain ⟨a, rfl⟩ | ⟨f, hf⟩ := isRead_iff.mp hi
    · obtain ⟨_, hbyte, hrange⟩ := rdbyteAnswersByte a s
      by_cases ha : a.toNat ≤ 92
      · exact ⟨_, _, hbyte hs ha, rfl, .ok _ _⟩
      · exact ⟨_, _, hrange hs (Nat.lt_of_not_le ha), rfl, .indexRange a⟩
    · exact ⟨_, _, answers_field hf hs, rfl, .ok _ _⟩
  · exact ⟨_, _, gateRefusesEveryRead i s hi hs, rfl, .notValid hi⟩

/-- Every operation answers, and one of the responses it may raise (R170). -/
theorem exec_raises (i : Instr) (s : State) : ∃ t r, exec i s = .next t ∧ t.resp = some r ∧ Raises i r := by
  cases hi : isRead i with
  | true => exact exec_read_raises s hi
  | false =>
    obtain rfl | rfl | ⟨b, rfl⟩ | rfl | rfl | ⟨a, f, rfl⟩ := isRead_eq_false_iff.mp hi
    · exact ⟨_, _, exec_nop s, rfl, .ok _ _⟩
    · exact ⟨_, _, exec_clear s, rfl, .ok _ _⟩
    · by_cases hs : s.status = .recv
      · exact ⟨_, _, exec_push_of_recv b hs, rfl, .ok _ _⟩
      · exact ⟨_, _, exec_push_of_ne_recv b hs, rfl, .pushNotReceiving b⟩
    · by_cases hs : s.status = .recv
      · exact ⟨_, _, exec_endFrame_of_recv hs, rfl, raises_verdict _⟩
      · exact ⟨_, _, exec_endFrame_of_ne_recv hs, rfl, .endNotReceiving⟩
    · exact ⟨_, _, exec_rdstat s, rfl, .ok _ _⟩
    · exact ⟨_, _, exec_buildcmd a f s, rfl, .ok _ _⟩

/-- Inversion: the answer an operation leaves is one it may raise. -/
theorem raises_of_exec {i : Instr} {s t : State} {r : Response} (hexec : exec i s = .next t)
    (hresp : t.resp = some r) : Raises i r := by
  obtain ⟨u, r', hu, hr', hraises⟩ := exec_raises i s
  obtain rfl : u = t := Host.Outcome.next.inj (hu.symm.trans hexec)
  obtain rfl : r' = r := Option.some.inj (hr'.symm.trans hresp)
  exact hraises

/-- Settles O58, row by row of the table: the number of a response singles out the clause that speaks of it. -/
theorem responseCodesAreRaisedBy : Obligations.ResponseCodesAreRaisedBy := by
  intro i s t r hexec hresp
  cases raises_of_exec hexec hresp with
  | ok i d => simp [Response.rc]
  | lengthError => simp [Response.rc]
  | checksumError => simp [Response.rc]
  | notValid hread => simp [Response.rc, hread]
  | pushNotReceiving b => simp [Response.rc]
  | endNotReceiving => simp [Response.rc]
  | indexRange a => simp [Response.rc]

end Sys2Proof.Proofs

-- ---------------------------------------------------------------- the order in which the conditions are reported (R179)

namespace Sys2Proof.Proofs

open Sys2Proof.Machine Sys2Proof.Safety

/-- The reads by their codes (R65): 0x06, and the codes of class 1. -/
theorem isRead_iff_opcode {i : Instr} : isRead i = true ↔ i.opcode = 0x06#8 ∨ 0x40 ≤ i.opcode.toNat := by
  cases i <;> simp [isRead, frameRange, Instr.opcode]

/-- A word with the code 0x06 or an assigned one of class 1 decodes to a read (R65, R72). -/
theorem decode_read {w : Hop} (h : opOf w = 0x06#8 ∨ (0x40 ≤ (opOf w).toNat ∧ reservedOp (opOf w) = false)) :
    ∃ i, decode w = .ok i ∧ isRead i = true := by
  have hassigned : reservedOp (opOf w) = false := h.elim (fun hop => by rw [hop]; rfl) And.right
  obtain ⟨i, hi, hop⟩ | ⟨_, hreserved⟩ := decode_cases w
  · exact ⟨i, hi, isRead_iff_opcode.mpr (hop ▸ h.imp_right And.left)⟩
  · simp [hassigned] at hreserved

/-- A step reports what the operation of the oldest issued word answers on the state without the word (log entry 4). -/
theorem step_reports {s t : State} {w : Hop} {rest : List Hop} {i : Instr} {r : Response}
    (hissued : s.issued = w :: rest) (hw : decode w = .ok i) (hexec : exec i (taken s rest) = .next t)
    (hresp : t.resp = some r) : ∃ t, step s = .next t ∧ t.resp = some r :=
  ⟨t, (step_of_decode_ok hissued hw).trans hexec, hresp⟩

/-- Settles O39: the decoder rejects first; then the rule of the decoded operation tests the status before the index,
and the length before the checksum. -/
theorem firstConditionIsReported : Obligations.FirstConditionIsReported := by
  intro s w rest hissued
  have hend : opOf w = 0x03#8 → decode w = .ok .endFrame := decode_of_opcode (i := .endFrame)
  obtain ⟨hrefused, hlength, hsum, _⟩ := endJudgesFrame (taken s rest)
  refine ⟨fun hreserved => ?_, fun hop hs => ?_, fun hop hs => ?_, fun hop hs ha => ?_, fun hop hs hc => ?_,
    fun hop hs hc ha => ?_⟩
  · exact ⟨_, reservedWordAnswersIllegalOp s w rest hissued hreserved, rfl⟩
  · obtain hop | hop := hop
    · exact step_reports hissued (decode_of_opcode (i := .push 0#8) hop) (exec_push_of_ne_recv _ hs) rfl
    · exact step_reports hissued (hend hop) (hrefused hs) rfl
  · obtain ⟨i, hw, hread⟩ := decode_read hop
    exact step_reports hissued hw (gateRefusesEveryRead i _ hread hs) rfl
  · obtain ⟨_, _, hrange⟩ := rdbyteAnswersByte (operandA w) (taken s rest)
    exact step_reports hissued (decode_of_opcode (i := .rdbyte 0#8) hop) (hrange hs ha) rfl
  · exact step_reports hissued (hend hop) (hlength hs hc) rfl
  · exact step_reports hissued (hend hop) (hsum hs hc ha) rfl

end Sys2Proof.Proofs

-- ---------------------------------------------------------------- every step completes (R199)

namespace Sys2Proof.Proofs

open Sys2Proof.Machine

/-- Settles O36. -/
theorem stepWithNothingIssuedStutters : Obligations.StepWithNothingIssuedStutters := fun _ => step_of_issued_nil

/-- R199, log entry 4: an operation word is answered by its operation, which keeps the words still issued, and a
reserved word by ILLEGAL_OP. -/
theorem step_answers_issued_word {s : State} {w : Hop} {rest : List Hop} (hissued : s.issued = w :: rest) :
    ∃ t, step s = .next t ∧ t.resp.isSome = true ∧ t.issued = rest := by
  cases hw : decode w with
  | ok i =>
    obtain ⟨e, _, hexec⟩ := exec_effect i (taken s rest)
    obtain ⟨_, _, _, _, hkept, hresp⟩ := eachRegisterHasItsWriters i _ _ hexec
    exact ⟨_, (step_of_decode_ok hissued hw).trans hexec, hresp, hkept⟩
  | error err => exact ⟨_, step_of_decode_error hissued hw, rfl, rfl⟩

/-- Settles O37: with nothing issued the step changes nothing, otherwise it answers the oldest word. -/
theorem everyStepCompletesAndIssuedWordIsAnswered : Obligations.EveryStepCompletesAndIssuedWordIsAnswered := by
  intro s
  cases hissued : s.issued with
  | nil => exact ⟨s, stepWithNothingIssuedStutters s hissued, absurd rfl⟩
  | cons w rest =>
    obtain ⟨t, hstep, hanswered⟩ := step_answers_issued_word hissued
    exact ⟨t, hstep, fun _ => hanswered⟩

end Sys2Proof.Proofs
